-- ==== Sys2Proof/Word.lean ====
section
/-! DEFINITION. The bit-vector types of the PSR: a device byte, a data-port word, a CSR value (spec/00_scope.md R10,
spec/10_state.md R19). -/

namespace Sys2Proof

/-- One byte: an 8-bit device port value or one byte of memory (spec/20_memory.md R46, R58). -/
abbrev Byte := BitVec 8

/-- One 16-bit word of the data port (spec/43_data_port_mux.md R173). -/
abbrev Half := BitVec 16

/-- One 32-bit host-visible register value (spec/10_state.md R19). -/
abbrev Word := BitVec 32

end Sys2Proof
end

