-- ==== Sys2Proof/Config.lean ====
section
/-! DEFINITION. The named parameters of spec/00_scope.md R8 and the free values of the `Device` oracle. -/

namespace Sys2Proof

/-- The implementation parameters of R8, as plain data. A State carries one `Config` and no step changes it, so every
statement over all states is a statement over all parameter values. `Device` is not here: its answers are inputs
(`State.byteAnswers`, `State.wordAnswers`) or the free values below. -/
structure Config where
  /-- `DEV_BASE`: the device-bus address of taskfile offset 0. -/
  devBase : Half
  /-- `HAS_LBA48`: whether CTRL.MODE can select the 48-bit addressing mode. -/
  hasLba48 : Bool
  /-- `TIMEOUT_RESET` as given; the value used is `Config.timeoutReset`. -/
  timeoutResetRaw : Word
  /-- `SETTLE_READS`, 0..255. -/
  settleReads : Byte
  /-- `MEM_ADDR_WIDTH`. -/
  memAddrWidth : Nat
  /-- `MemAdmit` as plain data: the ranges (first address, number of bytes) the platform does NOT admit. -/
  memRefused : List (Nat × Nat)
  deriving DecidableEq, Repr

/-- The defaults R8 recommends. -/
def Config.default : Config where
  devBase := 0x1F0
  hasLba48 := true
  timeoutResetRaw := 1000000
  settleReads := 4
  memAddrWidth := 32
  memRefused := []

/-- R9: `TIMEOUT_RESET` must be at least 1; a model given 0 uses 1. -/
def Config.timeoutReset (c : Config) : Word :=
  if c.timeoutResetRaw = 0 then 1 else c.timeoutResetRaw

/-- The configurations the spec describes: `MEM_ADDR_WIDTH` in 16..32 (R9) and `DEV_BASE + 7 <= 0xFFFF`
(spec/20_memory.md R46). -/
def Config.ok (c : Config) : Bool :=
  decide (16 ≤ c.memAddrWidth) && decide (c.memAddrWidth ≤ 32) && decide (c.devBase.toNat + 7 ≤ 0xFFFF)

/-- FREE VALUE (assumption log 5): the 8-bit answer of the `Device` oracle to the `n`-th device-bus read of a run, where
no answer is queued in the state (spec/43_data_port_mux.md R183: "a free draw"). It has no body: nothing is known of it. -/
opaque Config.deviceByte : Nat → Byte

/-- FREE VALUE (assumption log 5): the 16-bit answer of the `Device` oracle to the `n`-th device-bus read of a run, where
no answer is queued in the state. It has no body. -/
opaque Config.deviceWord : Nat → Half

end Sys2Proof
end

