-- ==== Sys2Proof/Syntax.lean ====
section
/-! DEFINITION. The instructions of the PSR: one constructor per mnemonic of spec/opcode_table.json. Host transactions
carry their write data, device-bus transactions carry nothing (the sequencer computes or the device answers the value), and
the drive/head bytes carry the fields D and L of their row. -/

namespace Sys2Proof

/-- Every transaction the PSR answers (format H), issues (format B) or writes as a device byte (formats CMD and DEVHEAD). -/
inductive Instr where
  -- host transactions, spec/40_host_interface.md
  | rdCtrl
  | wrCtrl (wdata : Word)
  | rdStatus
  | wrStatus (wdata : Word)
  | rdLbaLo
  | wrLbaLo (wdata : Word)
  | rdLbaHi
  | wrLbaHi (wdata : Word)
  | rdCount
  | wrCount (wdata : Word)
  | rdDestAddr
  | wrDestAddr (wdata : Word)
  | rdDestLen
  | wrDestLen (wdata : Word)
  | rdTimeout
  | wrTimeout (wdata : Word)
  | rdResult
  | wrResult (wdata : Word)
  | rdRetcode
  | wrRetcode (wdata : Word)
  | rdProgress
  | wrProgress (wdata : Word)
  | rdPollCount
  | wrPollCount (wdata : Word)
  /-- `n` is ADDR[3:2]: offsets 0x30, 0x34, 0x38, 0x3C (R123). -/
  | rsvdRd (n : BitVec 2)
  /-- `n` is ADDR[3:2] (R124). -/
  | rsvdWr (n : BitVec 2) (wdata : Word)
  /-- `h` is the whole 9-bit descriptor, the `info` of `HostAccessFault` (R96). -/
  | badAccess (h : BitVec 9)
  -- device-bus transactions, spec/30_encoding.md R79
  | outDevhead
  | outSeccount
  | outLbalo
  | outLbamid
  | outLbahi
  | outCmd
  | inStatus
  | inError
  | inData
  -- the command byte, R82
  | cmdReadSectors
  | cmdReadSectorsExt
  -- the drive/head byte, R81
  /-- `d` is CTRL.DRV, `l` is lba[27:24]. -/
  | devheadLba28 (d : BitVec 1) (l : BitVec 4)
  | devheadLba48 (d : BitVec 1)
  deriving DecidableEq, Repr

/-- The mnemonic of spec/opcode_table.json, letter for letter. -/
def Instr.mnemonic : Instr → String
  | .rdCtrl => "RD_CTRL"
  | .wrCtrl _ => "WR_CTRL"
  | .rdStatus => "RD_STATUS"
  | .wrStatus _ => "WR_STATUS"
  | .rdLbaLo => "RD_LBA_LO"
  | .wrLbaLo _ => "WR_LBA_LO"
  | .rdLbaHi => "RD_LBA_HI"
  | .wrLbaHi _ => "WR_LBA_HI"
  | .rdCount => "RD_COUNT"
  | .wrCount _ => "WR_COUNT"
  | .rdDestAddr => "RD_DEST_ADDR"
  | .wrDestAddr _ => "WR_DEST_ADDR"
  | .rdDestLen => "RD_DEST_LEN"
  | .wrDestLen _ => "WR_DEST_LEN"
  | .rdTimeout => "RD_TIMEOUT"
  | .wrTimeout _ => "WR_TIMEOUT"
  | .rdResult => "RD_RESULT"
  | .wrResult _ => "WR_RESULT"
  | .rdRetcode => "RD_RETCODE"
  | .wrRetcode _ => "WR_RETCODE"
  | .rdProgress => "RD_PROGRESS"
  | .wrProgress _ => "WR_PROGRESS"
  | .rdPollCount => "RD_POLL_COUNT"
  | .wrPollCount _ => "WR_POLL_COUNT"
  | .rsvdRd _ => "RSVD_RD"
  | .rsvdWr _ _ => "RSVD_WR"
  | .badAccess _ => "BAD_ACCESS"
  | .outDevhead => "OUT_DEVHEAD"
  | .outSeccount => "OUT_SECCOUNT"
  | .outLbalo => "OUT_LBALO"
  | .outLbamid => "OUT_LBAMID"
  | .outLbahi => "OUT_LBAHI"
  | .outCmd => "OUT_CMD"
  | .inStatus => "IN_STATUS"
  | .inError => "IN_ERROR"
  | .inData => "IN_DATA"
  | .cmdReadSectors => "CMD_READ_SECTORS"
  | .cmdReadSectorsExt => "CMD_READ_SECTORS_EXT"
  | .devheadLba28 _ _ => "DEVHEAD_LBA28"
  | .devheadLba48 _ => "DEVHEAD_LBA48"

/-- The transactions of format H, in which the PSR is the slave; the others are the sequencer's (R75). -/
def Instr.isHost : Instr → Bool
  | .rdCtrl | .wrCtrl _ | .rdStatus | .wrStatus _ | .rdLbaLo | .wrLbaLo _ | .rdLbaHi | .wrLbaHi _ | .rdCount
  | .wrCount _ | .rdDestAddr | .wrDestAddr _ | .rdDestLen | .wrDestLen _ | .rdTimeout | .wrTimeout _ | .rdResult
  | .wrResult _ | .rdRetcode | .wrRetcode _ | .rdProgress | .wrProgress _ | .rdPollCount | .wrPollCount _
  | .rsvdRd _ | .rsvdWr _ _ | .badAccess _ => true
  | .outDevhead | .outSeccount | .outLbalo | .outLbamid | .outLbahi | .outCmd | .inStatus | .inError | .inData
  | .cmdReadSectors | .cmdReadSectorsExt | .devheadLba28 _ _ | .devheadLba48 _ => false

/-- The host transactions that read a register: the RD_ rows and RSVD_RD. -/
def Instr.isRead : Instr → Bool
  | .rdCtrl | .rdStatus | .rdLbaLo | .rdLbaHi | .rdCount | .rdDestAddr | .rdDestLen | .rdTimeout | .rdResult
  | .rdRetcode | .rdProgress | .rdPollCount | .rsvdRd _ => true
  | .wrCtrl _ | .wrStatus _ | .wrLbaLo _ | .wrLbaHi _ | .wrCount _ | .wrDestAddr _ | .wrDestLen _ | .wrTimeout _
  | .wrResult _ | .wrRetcode _ | .wrProgress _ | .wrPollCount _ | .rsvdWr _ _ | .badAccess _
  | .outDevhead | .outSeccount | .outLbalo | .outLbamid | .outLbahi | .outCmd | .inStatus | .inError | .inData
  | .cmdReadSectors | .cmdReadSectorsExt | .devheadLba28 _ _ | .devheadLba48 _ => false

/-- The host transactions that write a register, writable or not: the WR_ rows and RSVD_WR. -/
def Instr.isWrite : Instr → Bool
  | .wrCtrl _ | .wrStatus _ | .wrLbaLo _ | .wrLbaHi _ | .wrCount _ | .wrDestAddr _ | .wrDestLen _ | .wrTimeout _
  | .wrResult _ | .wrRetcode _ | .wrProgress _ | .wrPollCount _ | .rsvdWr _ _ => true
  | .rdCtrl | .rdStatus | .rdLbaLo | .rdLbaHi | .rdCount | .rdDestAddr | .rdDestLen | .rdTimeout | .rdResult
  | .rdRetcode | .rdProgress | .rdPollCount | .rsvdRd _ | .badAccess _
  | .outDevhead | .outSeccount | .outLbalo | .outLbamid | .outLbahi | .outCmd | .inStatus | .inError | .inData
  | .cmdReadSectors | .cmdReadSectorsExt | .devheadLba28 _ _ | .devheadLba48 _ => false

end Sys2Proof
end

