-- ==== Sys2Proof/Machine/State.lean ====
section
/-! DEFINITION. The state of the PSR (spec/10_state.md R16 to R43), of the memory it writes, and of the agents around it: the
turns of the host agents and of the sequencer in their total order (spec/20_memory.md R65), the queued answers of the device
(spec/43_data_port_mux.md R183), the history of atomic events (spec/00_scope.md R12) and the host's responses. Plain data. -/

namespace Sys2Proof.Machine

/-- The sequencer's state register `seq.state`, R38; the values 0x9..0xF are never held. Its 4-bit encoding is
`SeqState.code`. -/
inductive SeqState where
  | idle | validate | waitNbsy | program | issue | settle | waitDrq | readErr | transfer
  deriving DecidableEq, Repr

/-- RESULT.CLASS, R29; the values 0x4..0xE are never written. Its encoding is `ResultClass.code`. -/
inductive ResultClass where
  | success | invalidParameters | deviceTimeout | deviceError | none
  deriving DecidableEq, Repr

/-- The primitives of R12, "Each is one atomic event recorded in the model's history": a device-bus transaction with its
port, its direction and width (the constructor) and its value (spec/20_memory.md R57), a memory byte write of the PSR, a
host program's memory read with the bytes it returned, a `Finish`, and a `HostAccessFault`. -/
inductive Event where
  | devOut8 (port : Half) (v : Byte)
  | devIn8 (port : Half) (v : Byte)
  | devIn16 (port : Half) (v : Half)
  | memWrite (addr : Nat) (v : Byte)
  | memRead (addr n : Nat) (bytes : List (Option Byte))
  | finish (cls : ResultClass) (detail : BitVec 4) (err st : Byte)
  | hostAccessFault (h : BitVec 9)
  deriving DecidableEq, Repr

/-- What a host agent gets back: RESP = OKAY with RDATA on a read, RESP = SLVERR (spec/40_host_interface.md R95, R96), or the
bytes of a memory read, at rising addresses (none: no byte of this run was written there). -/
inductive Response where
  | okay
  | okayRead (rdata : Word)
  | slverr
  | memBytes (bytes : List (Option Byte))
  deriving DecidableEq, Repr

/-- One turn of an agent in the total order of R65. -/
inductive Turn where
  /-- A host agent's transaction: descriptor H and WDATA (spec/30_encoding.md R76). -/
  | host (h : BitVec 9) (wdata : Word)
  /-- The sequencer's turn (spec/41_sequencer.md R136). -/
  | sequencer
  /-- The reset input is asserted (spec/70_reset_and_hazards.md R215). -/
  | reset
  /-- `MemRead(addr, n)` of a host program (R12): the `n` bytes from `addr` on. -/
  | memRead (addr n : Nat)
  /-- A host agent writes one byte of memory. -/
  | memWrite (addr : Nat) (v : Byte)
  /-- The host loop `POLL <reg>, <mask>, <value>` of R87, before its read; `h` is the read's descriptor. -/
  | poll (h : BitVec 9) (mask value : Word)
  /-- The branch of that loop, on the value the read returned. -/
  | pollTest (h : BitVec 9) (mask value : Word)
  deriving DecidableEq, Repr

/-- Byte-addressed memory (spec/20_memory.md R47): (address, byte) pairs, addresses strictly rising (`Memory.wf`). An address
not listed holds no byte the model knows of (`Memory.unlisted`). -/
abbrev Memory := List Host.Cell

/-- The state. The first group is the configuration, the next two are the PSR's own state (R16), the rest is what stands
around it. -/
structure State where
  /-- The parameters of R8; no step changes them. -/
  cfg : Config
  -- host-visible registers, R19 to R33
  /-- CTRL.MODE as stored; read through `ctrlModeBit` (RAZ/WI without `HAS_LBA48`, R20). -/
  ctrlMode : Bool
  /-- CTRL.DRV (R20). -/
  ctrlDrv : Bool
  /-- STATUS.BUSY (R21). -/
  statusBusy : Bool
  /-- STATUS.DONE (R21). -/
  statusDone : Bool
  /-- LBA_LO (R22). -/
  lbaLo : Word
  /-- LBA_HI bits 15:0 (R23). -/
  lbaHi : Half
  /-- COUNT bits 7:0 (R24). -/
  count : Byte
  /-- DEST_ADDR as stored; read through `destAddrReg` (bits above `MEM_ADDR_WIDTH` are RAZ/WI, R25). -/
  destAddr : Word
  /-- DEST_LEN (R26). -/
  destLen : Word
  /-- TIMEOUT (R27). -/
  timeout : Word
  /-- RESULT (R28). RETCODE, PROGRESS and POLL_COUNT are views (R30 to R32). -/
  result : Word
  -- the sequencer's internal registers, R40
  seqState : SeqState
  /-- `seq.k`: index of the next taskfile write. -/
  seqK : BitVec 4
  /-- `seq.j`: settle reads done. -/
  seqJ : Byte
  /-- `seq.s`: sectors completely transferred. -/
  seqS : Byte
  /-- `seq.i`: words of the current sector transferred. -/
  seqI : Byte
  /-- `seq.n`: evaluated status reads in the current wait. -/
  seqN : Word
  /-- `seq.lastStatus`: last device status byte read. -/
  lastStatus : Byte
  -- memory and the agents around the PSR
  mem : Memory
  /-- The turns to come, in the total order of R65. When none is left the sequencer runs on (R230; assumption log 8). -/
  pending : List Turn
  /-- Queued answers of the device to 8-bit reads; when none is left the answer is `Config.deviceByte draws`. -/
  byteAnswers : List Byte
  /-- Queued answers of the device to 16-bit reads; when none is left the answer is `Config.deviceWord draws`. -/
  wordAnswers : List Half
  /-- How many device-bus reads the run has made; it makes every free draw a fresh one (R13). -/
  draws : Nat
  /-- The events so far, oldest first (R12, R57). -/
  history : List Event
  /-- The responses to host agents so far, oldest first (R95). -/
  responses : List Response
  deriving DecidableEq, Repr

/-- Why the machine stops. -/
inductive Fault where
  /-- Raised by the meaning of a device-bus transaction, a command byte or a drive/head byte when the sequencer is not at the
  position that issues it (spec/43_data_port_mux.md R174: the PSR never makes that transaction there; assumption log 9).
  `step` never raises it. Safe: the spec gives no transition. -/
  | transactionNotIssued
  /-- Raised by `step` when the sequencer's position is one R40 says is never reached (PROGRAM with `seq.k` past its list;
  assumption log 15). Safe: the spec gives no transition. -/
  | positionNeverReached
  /-- Raised by a memory access at an address of more than `MEM_ADDR_WIDTH` bits, which does not exist (spec/20_memory.md R47):
  by a host agent's access (assumption log 12), or by IN_DATA in a state validation rules out (R176, assumption log 20).
  Safe. -/
  | noSuchAddress (addr : Nat)
  deriving DecidableEq, Repr

/-- Why a step has no meaning. -/
inductive Refusal where
  /-- Raised only by an arm of `exec` whose instruction has no meaning yet; the model has no such arm. Safe. -/
  | notModelled (mnemonic : String)
  /-- Raised by `step` when the parameters are no configuration the spec describes (spec/00_scope.md R9: "a model refuses
  it"; assumption log 14). Safe. -/
  | configurationNotDescribed
  deriving DecidableEq, Repr

/-- The machine with parameters `c` right after reset: the values of spec/10_state.md R43, with nothing around it: no memory
byte listed, no turn and no device answer queued, nothing recorded (assumption log 13, DESIGN CHOICE). -/
def State.resetWith (c : Config) : State where
  cfg := c
  ctrlMode := false
  ctrlDrv := false
  statusBusy := false
  statusDone := false
  lbaLo := 0
  lbaHi := 0
  count := 0
  destAddr := 0
  destLen := 0
  timeout := c.timeoutReset
  result := 0x0000000F
  seqState := .idle
  seqK := 0
  seqJ := 0
  seqS := 0
  seqI := 0
  seqN := 0
  lastStatus := 0x00
  mem := []
  pending := []
  byteAnswers := []
  wordAnswers := []
  draws := 0
  history := []
  responses := []

/-- The machine right after reset, with the default parameters of R8. -/
def State.reset : State := State.resetWith Config.default

end Sys2Proof.Machine
end

