-- ==== Sys2Proof/Machine/Flags.lean ====
section
/-! DEFINITION. Flags and encodings: the device status byte (spec/10_state.md R34), the two encodings the PSR fixes (R29, R38),
the STATUS, RESULT, RETCODE and PROGRESS words, and the four checks of VALIDATE (spec/41_sequencer.md R137). -/

namespace Sys2Proof.Machine

/-- BSY, bit 7 of a device status byte (R34). -/
def bsy (v : Byte) : Bool := v.getLsbD 7

/-- DRQ, bit 3 (R34). -/
def drq (v : Byte) : Bool := v.getLsbD 3

/-- ERR, bit 0 (R34). -/
def err (v : Byte) : Bool := v.getLsbD 0

/-- The 4-bit encoding of `seq.state` (R38), visible as STATUS.STATE. -/
def SeqState.code : SeqState → BitVec 4
  | .idle => 0x0
  | .validate => 0x1
  | .waitNbsy => 0x2
  | .program => 0x3
  | .issue => 0x4
  | .settle => 0x5
  | .waitDrq => 0x6
  | .readErr => 0x7
  | .transfer => 0x8

/-- The 4-bit encoding of RESULT.CLASS (R29). -/
def ResultClass.code : ResultClass → BitVec 4
  | .success => 0x0
  | .invalidParameters => 0x1
  | .deviceTimeout => 0x2
  | .deviceError => 0x3
  | .none => 0xF

/-- The word RD_STATUS returns (spec/40_host_interface.md R101). -/
def statusWord (s : State) : Word :=
  (s.lastStatus ++ s.seqState.code ++ 0b00#2 ++ BitVec.ofBool s.statusDone ++ BitVec.ofBool s.statusBusy).setWidth 32

/-- The word `Finish` writes to RESULT (spec/41_sequencer.md R146). -/
def resultWord (cls : ResultClass) (detail : BitVec 4) (e st : Byte) : Word :=
  0x00#8 ++ st ++ e ++ detail ++ cls.code

/-- RESULT.CLASS of a RESULT word (R28). -/
def resultClassField (r : Word) : BitVec 4 := r.extractLsb' 0 4

/-- RESULT.ERR_RAW of a RESULT word (R28). -/
def resultErrRaw (r : Word) : Byte := r.extractLsb' 8 8

/-- RETCODE, computed from RESULT at every read (spec/40_host_interface.md R117). -/
def retcodeWord (r : Word) : Word :=
  match (resultClassField r).toNat with
  | 0x0 => 0x00000000
  | 0x1 => 0xFFFFFFFF
  | 0x2 => 0xFFFFFFFE
  | 0x3 => 0x00000100 ||| (resultErrRaw r).setWidth 32
  | _ => 0x80000000

/-- The word RD_PROGRESS returns (R119): WORD_INDEX above SECTORS_DONE. -/
def progressWord (s : State) : Word := (s.seqI ++ s.seqS).setWidth 32

/-- CTRL.MODE as every reader sees it: RAZ when `HAS_LBA48 = false` (R20). -/
def ctrlModeBit (s : State) : Bool := s.cfg.hasLba48 && s.ctrlMode

/-- N, the LBA width of the selected addressing mode. -/
def lbaWidth (s : State) : Nat := if ctrlModeBit s then 48 else 28

/-- DETAIL of the VALIDATE step (R137) from exact numbers: bit 0 LBA_RANGE, bit 1 COUNT_ZERO, bit 2 BUF_SIZE, bit 3
BUF_WRAP, each set when its check fails. -/
def checkDetail (n lba c destAddr destLen memAddrWidth : Nat) : BitVec 4 :=
  let len := 512 * c
  BitVec.ofBool (decide (destAddr + len > 2 ^ memAddrWidth)) ++ BitVec.ofBool (decide (destLen < len)) ++
    BitVec.ofBool (decide (c = 0)) ++ BitVec.ofBool (decide (lba ≥ 2 ^ n) || decide (lba + c > 2 ^ n))

end Sys2Proof.Machine
end

