-- ==== Sys2Proof/Machine/Operands.lean ====
section
/-! DEFINITION. Operand assembly: the fields of a host write (spec/30_encoding.md R78), the request as the sequencer reads it
(spec/10_state.md R23, R25), the device bytes it writes (R81 to R83) and the taskfile lists (spec/41_sequencer.md R141, R142). -/

namespace Sys2Proof.Machine

/-- R78: CTRL.START is `WDATA[0]`. -/
def wdataStart (w : Word) : Bool := w.getLsbD 0

/-- R78: CTRL.MODE is `WDATA[1]` when `HAS_LBA48`, else 0. -/
def wdataMode (c : Config) (w : Word) : Bool := c.hasLba48 && w.getLsbD 1

/-- R78: CTRL.DRV is `WDATA[2]`. -/
def wdataDrv (w : Word) : Bool := w.getLsbD 2

/-- The low `width` bits of a register value, the others 0 (R25: the bits above `MEM_ADDR_WIDTH` are RAZ/WI). -/
def lowBits (width : Nat) (w : Word) : Word := BitVec.ofNat 32 (w.toNat % 2 ^ width)

/-- R78: TIMEOUT is `WDATA` if nonzero, else 1. -/
def legalTimeout (w : Word) : Word := if w = 0 then 1 else w

/-- DEST_ADDR as every reader sees it (R25). -/
def destAddrReg (s : State) : Word := lowBits s.cfg.memAddrWidth s.destAddr

/-- The word RD_CTRL returns (spec/40_host_interface.md R99). -/
def ctrlWord (s : State) : Word :=
  (BitVec.ofBool s.ctrlDrv ++ BitVec.ofBool (ctrlModeBit s) ++ 0b0#1).setWidth 32

/-- R23: `lba = {CSR.LBA_HI[15:0], CSR.LBA_LO[31:0]}`. -/
def requestLba (s : State) : BitVec 48 := s.lbaHi ++ s.lbaLo

/-- The four checks of VALIDATE on the request registers (R137). -/
def validationDetail (s : State) : BitVec 4 :=
  checkDetail (lbaWidth s) (requestLba s).toNat s.count.toNat (destAddrReg s).toNat s.destLen.toNat s.cfg.memAddrWidth

/-- R81, 28-bit mode: `0xE0 | (DRV << 4) | lba[27:24]`. -/
def devHead28 (d : BitVec 1) (l : BitVec 4) : Byte := 0xE0#8 ||| (d.setWidth 8 <<< 4) ||| l.setWidth 8

/-- R81, 48-bit mode: `0x40 | (DRV << 4)`. -/
def devHead48 (d : BitVec 1) : Byte := 0x40#8 ||| (d.setWidth 8 <<< 4)

/-- `List28` (R141): port offset and value of each taskfile write of the 28-bit mode, in order. -/
def list28 (drv : BitVec 1) (lba : BitVec 48) (c : Byte) : List (BitVec 3 × Byte) :=
  [(6, devHead28 drv (lba.extractLsb' 24 4)),
    (2, c),
    (3, lba.extractLsb' 0 8),
    (4, lba.extractLsb' 8 8),
    (5, lba.extractLsb' 16 8)]

/-- `List48` (R142): the high-order bytes first, then the low-order bytes, into the same ports. -/
def list48 (drv : BitVec 1) (lba : BitVec 48) (c : Byte) : List (BitVec 3 × Byte) :=
  [(6, devHead48 drv),
    (2, 0x00),
    (3, lba.extractLsb' 24 8),
    (4, lba.extractLsb' 32 8),
    (5, lba.extractLsb' 40 8),
    (2, c),
    (3, lba.extractLsb' 0 8),
    (4, lba.extractLsb' 8 8),
    (5, lba.extractLsb' 16 8)]

/-- The list of the selected mode (R140). -/
def taskfile (s : State) : List (BitVec 3 × Byte) :=
  if ctrlModeBit s then list48 (BitVec.ofBool s.ctrlDrv) (requestLba s) s.count
  else list28 (BitVec.ofBool s.ctrlDrv) (requestLba s) s.count

/-- The command byte of the selected mode (R82): READ SECTORS EXT in the 48-bit mode, READ SECTORS in the 28-bit mode. -/
def commandByte (s : State) : Byte := if ctrlModeBit s then 0x24 else 0x20

/-- Where TRANSFER writes the low byte of the current word (spec/43_data_port_mux.md R175, R176), an exact sum. -/
def transferAddr (s : State) : Nat := (destAddrReg s).toNat + 512 * s.seqS.toNat + 2 * s.seqI.toNat

end Sys2Proof.Machine
end

