-- ==== Sys2Proof/Machine/Ops.lean ====
section
/-! DEFINITION. The named operations over memory and registers: memory bytes, the device-bus primitives (spec/00_scope.md
R12), the host's responses, and the shared transitions Start, EnterWait, Finish (the PSR's entry into a result,
spec/60_exceptions.md R194), HostAccessFault and reset. There is no return-from-exception transaction (R195): the host reads
the result and may START again. -/

namespace Sys2Proof.Machine

/-! ### Memory -/

/-- What an address the memory does not list reads as: no value (assumption log 4). -/
def Memory.unlisted : Option Byte := none

/-- The canonical form: addresses strictly rising. No entry equals what an unlisted address reads as, since that is no
value. -/
abbrev Memory.wf (m : Memory) : Prop := (m.map Prod.fst).Pairwise (· < ·)

/-- The byte at an address. -/
def Memory.read : Memory → Nat → Option Byte
  | [], _ => Memory.unlisted
  | (b, v) :: rest, a => if a = b then some v else Memory.read rest a

/-- The `n` bytes from address `a` on, at rising addresses. -/
def Memory.readBytes (m : Memory) (a n : Nat) : List (Option Byte) := (List.range n).map fun k => Memory.read m (a + k)

/-- Memory with byte `v` at address `a`, in canonical form again. -/
def Memory.write : Memory → Nat → Byte → Memory
  | [], a, v => [(a, v)]
  | (b, w) :: rest, a, v =>
    if a < b then (a, v) :: (b, w) :: rest
    else if a = b then (a, v) :: rest
    else (b, w) :: Memory.write rest a v

/-- An address of `MEM_ADDR_WIDTH` bits (spec/20_memory.md R47). -/
def addressExists (c : Config) (a : Nat) : Bool := decide (a < 2 ^ c.memAddrWidth)

/-- Every address of an access of `n` bytes from `a` on exists. -/
def accessExists (c : Config) (a n : Nat) : Bool := decide (a + n ≤ 2 ^ c.memAddrWidth)

/-- `MemAdmit(addr, size)` (R59): no byte of the access lies in a range the platform does not admit. -/
def memAdmit (c : Config) (addr size : Nat) : Bool :=
  c.memRefused.all fun r => decide (addr + size ≤ r.1) || decide (r.1 + r.2 ≤ addr)

/-- `MemWrite(addr, 1, v)`: one byte write, recorded (R58). -/
def memWriteByte (a : Nat) (v : Byte) (s : State) : State :=
  { s with mem := Memory.write s.mem a v, history := s.history ++ [.memWrite a v] }

/-- `MemRead(addr, n)` (R12), whose value is `Memory.readBytes` of memory: one atomic event, recorded; memory stays. Only a
host agent makes one. -/
def memReadBytes (a n : Nat) (s : State) : State :=
  { s with history := s.history ++ [.memRead a n (Memory.readBytes s.mem a n)] }

/-! ### The device bus -/

/-- The port of a taskfile offset: `DEV_BASE + off` (spec/43_data_port_mux.md R170). -/
def devPort (s : State) (off : BitVec 3) : Half := s.cfg.devBase + off.setWidth 16

/-- `DevOut8(off, v)` (R171): one 8-bit write, recorded; it cannot fail. -/
def devOut8 (off : BitVec 3) (v : Byte) (s : State) : State :=
  { s with history := s.history ++ [.devOut8 (devPort s off) v] }

/-- The device's answer to the next 8-bit read: the queued one, else a free draw (R183). -/
def nextByte (s : State) : Byte := s.byteAnswers.headD (Config.deviceByte s.draws)

/-- The device's answer to the next 16-bit read: the queued one, else a free draw (R183). -/
def nextWord (s : State) : Half := s.wordAnswers.headD (Config.deviceWord s.draws)

/-- The state after `DevIn8(off)` (R172), whose value is `nextByte` of the state before. -/
def devIn8 (off : BitVec 3) (s : State) : State :=
  { s with
    byteAnswers := s.byteAnswers.tail
    draws := s.draws + 1
    history := s.history ++ [.devIn8 (devPort s off) (nextByte s)] }

/-- The state after `DevIn16()` (R173), whose value is `nextWord` of the state before. -/
def devIn16 (s : State) : State :=
  { s with
    wordAnswers := s.wordAnswers.tail
    draws := s.draws + 1
    history := s.history ++ [.devIn16 (devPort s 0) (nextWord s)] }

/-- The state after a read of the status port (spec/42_status_poller.md R155): every one updates `seq.lastStatus`. -/
def readStatus (s : State) : State := { devIn8 7 s with lastStatus := nextByte s }

/-! ### Host transactions -/

/-- The response to a host agent (spec/40_host_interface.md R95). -/
def respond (r : Response) (s : State) : State := { s with responses := s.responses ++ [r] }

/-- A read of a CSR: OKAY with RDATA, no side effect (spec/20_memory.md R56). -/
def csrRead (rdata : Word) (s : State) : State := respond (.okayRead rdata) s

/-- A write to a writable register: OKAY, and ignored while BUSY = 1 (R98). -/
def csrWrite (store : State → State) (s : State) : State :=
  respond .okay (if s.statusBusy then s else store s)

/-- A write to a read-only register or a reserved offset: OKAY, nothing changes (R97). -/
def csrWriteIgnored (s : State) : State := respond .okay s

/-- `raise HostAccessFault(h)` (R96): the response SLVERR, no CSR, internal register, device or memory state
changes (assumption log 10, DEDUCED). -/
def hostAccessFault (h : BitVec 9) (s : State) : State :=
  respond .slverr { s with history := s.history ++ [.hostAccessFault h] }

/-! ### Start, EnterWait, Finish, reset -/

/-- `Start()` (spec/41_sequencer.md R135). -/
def start (s : State) : State :=
  { s with
    statusBusy := true
    statusDone := false
    result := 0x0000000F
    seqK := 0
    seqJ := 0
    seqS := 0
    seqI := 0
    seqN := 0
    lastStatus := 0x00
    seqState := .validate }

/-- `EnterWait(S)` (R144). -/
def enterWait (w : SeqState) (s : State) : State := { s with seqN := 0, seqState := w }

/-- `Finish(cls, detail, err, st)` (R146), the one way an operation ends but reset. -/
def finish (cls : ResultClass) (detail : BitVec 4) (e st : Byte) (s : State) : State :=
  { s with
    result := resultWord cls detail e st
    seqState := .idle
    statusBusy := false
    statusDone := true
    history := s.history ++ [.finish cls detail e st] }

/-- Asserting reset (spec/70_reset_and_hazards.md R215): every piece of the PSR's state takes its reset value. Memory, the
device and the other agents are not the PSR's and stay (R216, R217; assumption log 11, DESIGN CHOICE). -/
def assertReset (s : State) : State :=
  { State.resetWith s.cfg with
    mem := s.mem
    pending := s.pending
    byteAnswers := s.byteAnswers
    wordAnswers := s.wordAnswers
    draws := s.draws
    history := s.history
    responses := s.responses }

/-! ### A host agent's own moves (assumption log 12, DESIGN CHOICE) -/

/-- `MemRead(addr, n)` of a host program (R12): for each byte the last one written there (R66), or none this run wrote. -/
def hostMemRead (a n : Nat) (s : State) : Host.Outcome State Fault Refusal :=
  if accessExists s.cfg a n then .next (respond (.memBytes (Memory.readBytes s.mem a n)) (memReadBytes a n s))
  else .fault (.noSuchAddress (a + n - 1))

/-- A host agent writes one byte of memory. It is no primitive of R12, whose `MemWrite` is the PSR's, and is not recorded. -/
def hostMemWrite (a : Nat) (v : Byte) (s : State) : Host.Outcome State Fault Refusal :=
  if addressExists s.cfg a then .next { s with mem := Memory.write s.mem a v } else .fault (.noSuchAddress a)

/-- The test of `POLL` (spec/30_encoding.md R87) on the last response: `(x & mask) = value`. -/
def pollMet (mask value : Word) (s : State) : Bool :=
  match s.responses.getLast? with
  | some (.okayRead x) => x &&& mask == value
  | _ => false

/-- R87: `L: RD <reg> -> x`. -/
def pollRead (h : BitVec 9) (mask value : Word) (s : State) : State :=
  { s with pending := .host h 0 :: .pollTest h mask value :: s.pending }

/-- R87: `if (x & mask) != value then goto L`. Between two reads of the loop the sequencer has one turn (assumption
log 6). -/
def pollBranch (h : BitVec 9) (mask value : Word) (s : State) : State :=
  if pollMet mask value s then s
  else { s with pending := .sequencer :: .poll h mask value :: s.pending }

end Sys2Proof.Machine
end

