-- ==== Sys2Proof/Machine/DataMux.lean ====
section
/-! DEFINITION. The data-port mux (spec/43_data_port_mux.md): IN_DATA, the TRANSFER step. -/

namespace Sys2Proof.Machine

/-- The position after a word has been stored (R175): the next word, or the sector is complete. -/
def advanceWord (s : State) : State :=
  if s.seqI.toNat < 255 then { s with seqI := s.seqI + 1 }
  else
    let t := { s with seqI := 0, seqS := s.seqS + 1 }
    if s.seqS.toNat + 1 = s.count.toNat then finish .success 0b0000 0x00 s.lastStatus t else enterWait .waitDrq t

/-- TRANSFER step (R175), its two byte writes admitted: low byte first. -/
def transferWord (s : State) : State :=
  let w := nextWord s
  let a := transferAddr s
  advanceWord (memWriteByte (a + 1) (w.extractLsb' 8 8) (memWriteByte a (w.extractLsb' 0 8) (devIn16 s)))

/-- IN_DATA, the TRANSFER step. Where a byte write is not admitted the step has no transition (R181: "the data-port read is
not performed either, and the sequencer stays in TRANSFER"): nothing changes, and the other agents go on (assumption log 7). -/
def execInData (s : State) : Host.Outcome State Fault Refusal :=
  if s.seqState = .transfer then
    if addressExists s.cfg (transferAddr s + 1) then
      if memAdmit s.cfg (transferAddr s) 1 && memAdmit s.cfg (transferAddr s + 1) 1 then .next (transferWord s)
      else .next s
    else .fault (.noSuchAddress (transferAddr s + 1))
  else .fault .transactionNotIssued

end Sys2Proof.Machine
end

