-- ==== Sys2Proof/Machine/HostRead.lean ====
section
/-! DEFINITION. The host read transactions (spec/40_host_interface.md R99 to R123). Each answers OKAY with RDATA and changes
nothing else. -/

namespace Sys2Proof.Machine

/-- RD_CTRL, R99: `zext_32({CSR.CTRL.DRV, CSR.CTRL.MODE, 0b0})`. -/
def execRdCtrl (s : State) : Host.Outcome State Fault Refusal := .next (csrRead (ctrlWord s) s)

/-- RD_STATUS, R101. -/
def execRdStatus (s : State) : Host.Outcome State Fault Refusal := .next (csrRead (statusWord s) s)

/-- RD_LBA_LO, R103. -/
def execRdLbaLo (s : State) : Host.Outcome State Fault Refusal := .next (csrRead s.lbaLo s)

/-- RD_LBA_HI, R105. -/
def execRdLbaHi (s : State) : Host.Outcome State Fault Refusal := .next (csrRead (s.lbaHi.setWidth 32) s)

/-- RD_COUNT, R107. -/
def execRdCount (s : State) : Host.Outcome State Fault Refusal := .next (csrRead (s.count.setWidth 32) s)

/-- RD_DEST_ADDR, R109. -/
def execRdDestAddr (s : State) : Host.Outcome State Fault Refusal := .next (csrRead (destAddrReg s) s)

/-- RD_DEST_LEN, R111. -/
def execRdDestLen (s : State) : Host.Outcome State Fault Refusal := .next (csrRead s.destLen s)

/-- RD_TIMEOUT, R113. -/
def execRdTimeout (s : State) : Host.Outcome State Fault Refusal := .next (csrRead s.timeout s)

/-- RD_RESULT, R115. -/
def execRdResult (s : State) : Host.Outcome State Fault Refusal := .next (csrRead s.result s)

/-- RD_RETCODE, R117. -/
def execRdRetcode (s : State) : Host.Outcome State Fault Refusal := .next (csrRead (retcodeWord s.result) s)

/-- RD_PROGRESS, R119. -/
def execRdProgress (s : State) : Host.Outcome State Fault Refusal := .next (csrRead (progressWord s) s)

/-- RD_POLL_COUNT, R121. -/
def execRdPollCount (s : State) : Host.Outcome State Fault Refusal := .next (csrRead s.seqN s)

/-- RSVD_RD, R123: `RDATA <- 0x00000000` at each of the four offsets. -/
def execRsvdRd (_n : BitVec 2) (s : State) : Host.Outcome State Fault Refusal := .next (csrRead 0x00000000 s)

end Sys2Proof.Machine
end

