-- ==== Sys2Proof/Machine/HostWrite.lean ====
section
/-! DEFINITION. The host write transactions (spec/40_host_interface.md R100 to R124) and BAD_ACCESS (R96). -/

namespace Sys2Proof.Machine

/-- The effect of an accepted CTRL write: MODE and DRV are stored before `Start` (R100). -/
def storeCtrl (wdata : Word) (s : State) : State :=
  let t := { s with ctrlMode := wdataMode s.cfg wdata, ctrlDrv := wdataDrv wdata }
  if wdataStart wdata then start t else t

/-- WR_CTRL, R100. -/
def execWrCtrl (wdata : Word) (s : State) : Host.Outcome State Fault Refusal := .next (csrWrite (storeCtrl wdata) s)

/-- WR_STATUS, R102: read-only. -/
def execWrStatus (_wdata : Word) (s : State) : Host.Outcome State Fault Refusal := .next (csrWriteIgnored s)

/-- WR_LBA_LO, R104. -/
def execWrLbaLo (wdata : Word) (s : State) : Host.Outcome State Fault Refusal :=
  .next (csrWrite (fun t => { t with lbaLo := wdata }) s)

/-- WR_LBA_HI, R106: `WDATA[15:0]`. -/
def execWrLbaHi (wdata : Word) (s : State) : Host.Outcome State Fault Refusal :=
  .next (csrWrite (fun t => { t with lbaHi := wdata.extractLsb' 0 16 }) s)

/-- WR_COUNT, R108: `WDATA[7:0]`. -/
def execWrCount (wdata : Word) (s : State) : Host.Outcome State Fault Refusal :=
  .next (csrWrite (fun t => { t with count := wdata.extractLsb' 0 8 }) s)

/-- WR_DEST_ADDR, R110: `WDATA[MEM_ADDR_WIDTH-1:0]`. -/
def execWrDestAddr (wdata : Word) (s : State) : Host.Outcome State Fault Refusal :=
  .next (csrWrite (fun t => { t with destAddr := lowBits t.cfg.memAddrWidth wdata }) s)

/-- WR_DEST_LEN, R112. -/
def execWrDestLen (wdata : Word) (s : State) : Host.Outcome State Fault Refusal :=
  .next (csrWrite (fun t => { t with destLen := wdata }) s)

/-- WR_TIMEOUT, R114: WARL, 0 stores 1. -/
def execWrTimeout (wdata : Word) (s : State) : Host.Outcome State Fault Refusal :=
  .next (csrWrite (fun t => { t with timeout := legalTimeout wdata }) s)

/-- WR_RESULT, R116: read-only. -/
def execWrResult (_wdata : Word) (s : State) : Host.Outcome State Fault Refusal := .next (csrWriteIgnored s)

/-- WR_RETCODE, R118: read-only. -/
def execWrRetcode (_wdata : Word) (s : State) : Host.Outcome State Fault Refusal := .next (csrWriteIgnored s)

/-- WR_PROGRESS, R120: read-only. -/
def execWrProgress (_wdata : Word) (s : State) : Host.Outcome State Fault Refusal := .next (csrWriteIgnored s)

/-- WR_POLL_COUNT, R122: read-only. -/
def execWrPollCount (_wdata : Word) (s : State) : Host.Outcome State Fault Refusal := .next (csrWriteIgnored s)

/-- RSVD_WR, R124: reserved offset, ignored whether or not BUSY = 1. -/
def execRsvdWr (_n : BitVec 2) (_wdata : Word) (s : State) : Host.Outcome State Fault Refusal := .next (csrWriteIgnored s)

/-- BAD_ACCESS, R96: SLVERR, no state change; the size and alignment check comes before BUSY. -/
def execBadAccess (h : BitVec 9) (s : State) : Host.Outcome State Fault Refusal := .next (hostAccessFault h s)

end Sys2Proof.Machine
end

