-- ==== Sys2Proof/Machine/Poller.lean ====
section
/-! DEFINITION. The status poller (spec/42_status_poller.md): IN_STATUS in its three states and IN_ERROR. -/

namespace Sys2Proof.Machine

/-- What a status byte does to a wait (R156): continue, or the action that ends the wait. -/
inductive PollAction where
  | stay
  | toProgram
  | toReadErr
  | toTransfer
  deriving DecidableEq, Repr

/-- The condition of the not-busy wait (R158): only BSY is examined. -/
def nbsyCondition (v : Byte) : PollAction := if bsy v then .stay else .toProgram

/-- The condition of the data wait (R159, R160): BSY hides ERR and DRQ, ERR wins over DRQ. -/
def drqCondition (v : Byte) : PollAction :=
  if bsy v then .stay else if err v then .toReadErr else if drq v then .toTransfer else .stay

/-- `PollStep(cond, phase)` (R156). The condition is tested before the count. -/
def pollStep (cond : Byte → PollAction) (phase : BitVec 4) (s : State) : State :=
  let v := nextByte s
  let t := { readStatus s with seqN := s.seqN + 1 }
  match cond v with
  | .toProgram => { t with seqK := 0, seqState := .program }
  | .toReadErr => { t with seqState := .readErr }
  | .toTransfer => { t with seqI := 0, seqState := .transfer }
  | .stay => if s.timeout.toNat ≤ s.seqN.toNat + 1 then finish .deviceTimeout phase 0x00 v t else t

/-- SETTLE step (R162): the byte is neither evaluated nor counted in `seq.n`. -/
def settleStep (s : State) : State :=
  let t := { readStatus s with seqJ := s.seqJ + 1 }
  if s.seqJ + 1 = s.cfg.settleReads then enterWait .waitDrq t else t

/-- IN_STATUS (R155), by the state that issues it: WAIT_NBSY (R158), SETTLE (R162), WAIT_DRQ (R159). -/
def execInStatus (s : State) : Host.Outcome State Fault Refusal :=
  match s.seqState with
  | .waitNbsy => .next (pollStep nbsyCondition 0x1 s)
  | .settle => .next (settleStep s)
  | .waitDrq => .next (pollStep drqCondition 0x2 s)
  | .idle | .validate | .program | .issue | .readErr | .transfer => .fault .transactionNotIssued

/-- IN_ERROR, the READ_ERR step (R161). -/
def execInError (s : State) : Host.Outcome State Fault Refusal :=
  if s.seqState = .readErr then .next (finish .deviceError 0b0000 (nextByte s) s.lastStatus (devIn8 1 s))
  else .fault .transactionNotIssued

end Sys2Proof.Machine
end

