-- ==== Sys2Proof/Machine/Sequencer.lean ====
section
/-! DEFINITION. The command sequencer (spec/41_sequencer.md): the VALIDATE step, the taskfile writes of PROGRAM, the command
write of ISSUE, and the drive/head and command bytes as the transactions that write them. A transaction whose step is not
the sequencer's present one is not issued (spec/43_data_port_mux.md R174; assumption log 9, DESIGN CHOICE). -/

namespace Sys2Proof.Machine

/-- VALIDATE step, R137. It is no transaction: it touches neither the device bus nor memory. -/
def validateStep (s : State) : State :=
  let d := validationDetail s
  if d = 0 then enterWait .waitNbsy s else finish .invalidParameters d 0x00 0x00 s

/-- One PROGRAM step, R140: the write, `seq.k <- seq.k + 1`, and ISSUE after the last entry of the list. -/
def programWrite (off : BitVec 3) (v : Byte) (s : State) : State :=
  let t := { devOut8 off v s with seqK := s.seqK + 1 }
  if s.seqK.toNat + 1 = (taskfile s).length then { t with seqState := .issue } else t

/-- The PROGRAM step when the current entry of the list is for port `off`. -/
def taskfileWrite (off : BitVec 3) (s : State) : Host.Outcome State Fault Refusal :=
  match s.seqState, (taskfile s)[s.seqK.toNat]? with
  | .program, some (o, v) => if o = off then .next (programWrite off v s) else .fault .transactionNotIssued
  | _, _ => .fault .transactionNotIssued

/-- OUT_DEVHEAD, R79 and R140: port 6, drive/head. -/
def execOutDevhead (s : State) : Host.Outcome State Fault Refusal := taskfileWrite 6 s

/-- OUT_SECCOUNT: port 2, sector count (R83). -/
def execOutSeccount (s : State) : Host.Outcome State Fault Refusal := taskfileWrite 2 s

/-- OUT_LBALO: port 3. -/
def execOutLbalo (s : State) : Host.Outcome State Fault Refusal := taskfileWrite 3 s

/-- OUT_LBAMID: port 4. -/
def execOutLbamid (s : State) : Host.Outcome State Fault Refusal := taskfileWrite 4 s

/-- OUT_LBAHI: port 5. -/
def execOutLbahi (s : State) : Host.Outcome State Fault Refusal := taskfileWrite 5 s

/-- DEVHEAD_LBA28, R81: the write of 0b111DLLLL to port 6. It is the first PROGRAM step of the 28-bit mode, with D the drive
and L lba[27:24]; with other fields the PSR does not write it. -/
def execDevheadLba28 (d : BitVec 1) (l : BitVec 4) (s : State) : Host.Outcome State Fault Refusal :=
  if s.seqState = .program ∧ s.seqK = 0 ∧ ctrlModeBit s = false ∧ d = BitVec.ofBool s.ctrlDrv ∧
      l = (requestLba s).extractLsb' 24 4 then
    .next (programWrite 6 (devHead28 d l) s)
  else .fault .transactionNotIssued

/-- DEVHEAD_LBA48, R81: the write of 0b010D0000 to port 6, the first PROGRAM step of the 48-bit mode. -/
def execDevheadLba48 (d : BitVec 1) (s : State) : Host.Outcome State Fault Refusal :=
  if s.seqState = .program ∧ s.seqK = 0 ∧ ctrlModeBit s = true ∧ d = BitVec.ofBool s.ctrlDrv then
    .next (programWrite 6 (devHead48 d) s)
  else .fault .transactionNotIssued

/-- ISSUE step, R143, with command byte `v`. -/
def issueCommand (v : Byte) (s : State) : State :=
  let t := { devOut8 7 v s with seqJ := 0 }
  if s.cfg.settleReads = 0 then enterWait .waitDrq t else { t with seqState := .settle }

/-- OUT_CMD, R143: the command of the selected mode. -/
def execOutCmd (s : State) : Host.Outcome State Fault Refusal :=
  if s.seqState = .issue then .next (issueCommand (commandByte s) s) else .fault .transactionNotIssued

/-- CMD_READ_SECTORS, R82: the command byte 0x20, written in the 28-bit mode. -/
def execCmdReadSectors (s : State) : Host.Outcome State Fault Refusal :=
  if s.seqState = .issue ∧ ctrlModeBit s = false then .next (issueCommand 0x20 s) else .fault .transactionNotIssued

/-- CMD_READ_SECTORS_EXT, R82: the command byte 0x24, written in the 48-bit mode. -/
def execCmdReadSectorsExt (s : State) : Host.Outcome State Fault Refusal :=
  if s.seqState = .issue ∧ ctrlModeBit s = true then .next (issueCommand 0x24 s) else .fault .transactionNotIssued

end Sys2Proof.Machine
end

