-- ==== Sys2Proof/Machine/Dispatch.lean ====
section
/-! DEFINITION. One arm per constructor of Instr: its meaning. -/

namespace Sys2Proof.Machine

def exec (i : Instr) (s : State) : Host.Outcome State Fault Refusal :=
  match i with
  -- host transactions
  | .rdCtrl => Sys2Proof.Machine.execRdCtrl s
  | .wrCtrl wdata => Sys2Proof.Machine.execWrCtrl wdata s
  | .rdStatus => Sys2Proof.Machine.execRdStatus s
  | .wrStatus wdata => Sys2Proof.Machine.execWrStatus wdata s
  | .rdLbaLo => Sys2Proof.Machine.execRdLbaLo s
  | .wrLbaLo wdata => Sys2Proof.Machine.execWrLbaLo wdata s
  | .rdLbaHi => Sys2Proof.Machine.execRdLbaHi s
  | .wrLbaHi wdata => Sys2Proof.Machine.execWrLbaHi wdata s
  | .rdCount => Sys2Proof.Machine.execRdCount s
  | .wrCount wdata => Sys2Proof.Machine.execWrCount wdata s
  | .rdDestAddr => Sys2Proof.Machine.execRdDestAddr s
  | .wrDestAddr wdata => Sys2Proof.Machine.execWrDestAddr wdata s
  | .rdDestLen => Sys2Proof.Machine.execRdDestLen s
  | .wrDestLen wdata => Sys2Proof.Machine.execWrDestLen wdata s
  | .rdTimeout => Sys2Proof.Machine.execRdTimeout s
  | .wrTimeout wdata => Sys2Proof.Machine.execWrTimeout wdata s
  | .rdResult => Sys2Proof.Machine.execRdResult s
  | .wrResult wdata => Sys2Proof.Machine.execWrResult wdata s
  | .rdRetcode => Sys2Proof.Machine.execRdRetcode s
  | .wrRetcode wdata => Sys2Proof.Machine.execWrRetcode wdata s
  | .rdProgress => Sys2Proof.Machine.execRdProgress s
  | .wrProgress wdata => Sys2Proof.Machine.execWrProgress wdata s
  | .rdPollCount => Sys2Proof.Machine.execRdPollCount s
  | .wrPollCount wdata => Sys2Proof.Machine.execWrPollCount wdata s
  | .rsvdRd n => Sys2Proof.Machine.execRsvdRd n s
  | .rsvdWr n wdata => Sys2Proof.Machine.execRsvdWr n wdata s
  | .badAccess h => Sys2Proof.Machine.execBadAccess h s
  -- device-bus transactions
  | .outDevhead => Sys2Proof.Machine.execOutDevhead s
  | .outSeccount => Sys2Proof.Machine.execOutSeccount s
  | .outLbalo => Sys2Proof.Machine.execOutLbalo s
  | .outLbamid => Sys2Proof.Machine.execOutLbamid s
  | .outLbahi => Sys2Proof.Machine.execOutLbahi s
  | .outCmd => Sys2Proof.Machine.execOutCmd s
  | .inStatus => Sys2Proof.Machine.execInStatus s
  | .inError => Sys2Proof.Machine.execInError s
  | .inData => Sys2Proof.Machine.execInData s
  -- device bytes
  | .cmdReadSectors => Sys2Proof.Machine.execCmdReadSectors s
  | .cmdReadSectorsExt => Sys2Proof.Machine.execCmdReadSectorsExt s
  | .devheadLba28 d l => Sys2Proof.Machine.execDevheadLba28 d l s
  | .devheadLba48 d => Sys2Proof.Machine.execDevheadLba48 d s

end Sys2Proof.Machine
end

