-- ==== Sys2Proof/WellFormed.lean ====
section
/-! DEFINITION. Which instruction terms stand for a transaction of the spec. The fields' widths are in their types, so the
one check left is BAD_ACCESS's: its descriptor must be one no other row matches (spec/30_encoding.md R77). -/

namespace Sys2Proof

/-- R77: `SIZE != 0b10` or `ADDR[1:0] != 0b00`. -/
def badDescriptor (h : BitVec 9) : Bool :=
  h.extractLsb' 7 2 != 0b10#2 || h.extractLsb' 0 2 != 0b00#2

/-- A term of Instr that stands for a transaction. -/
def Instr.wf : Instr → Bool
  | .badAccess h => badDescriptor h
  | .rdCtrl | .wrCtrl _ | .rdStatus | .wrStatus _ | .rdLbaLo | .wrLbaLo _ | .rdLbaHi | .wrLbaHi _ | .rdCount
  | .wrCount _ | .rdDestAddr | .wrDestAddr _ | .rdDestLen | .wrDestLen _ | .rdTimeout | .wrTimeout _ | .rdResult
  | .wrResult _ | .rdRetcode | .wrRetcode _ | .rdProgress | .wrProgress _ | .rdPollCount | .wrPollCount _
  | .rsvdRd _ | .rsvdWr _ _ | .outDevhead | .outSeccount | .outLbalo | .outLbamid | .outLbahi | .outCmd | .inStatus
  | .inError | .inData | .cmdReadSectors | .cmdReadSectorsExt | .devheadLba28 _ _ | .devheadLba48 _ => true

end Sys2Proof
end

