-- ==== Sys2Proof/Decode.lean ====
section
/-! DEFINITION. Decoding (total, rejecting by name) and encoding of the four formats of spec/opcode_table.json
(spec/30_encoding.md R75 to R85). Container of the words (assumption log 2): a host transaction is six bytes, the 9-bit
descriptor H in the first two (low byte first) and WDATA in the next four (low byte first); a device-bus descriptor B, a
command byte and a drive/head byte are one byte each. The three one-byte formats share no value, so one byte has at most
one reading. -/

namespace Sys2Proof

/-- Why bytes are no transaction of the PSR. -/
inductive Reject where
  /-- One of the 23 device-bus descriptors the PSR never issues (R80). -/
  | unissuedDescriptor (b : BitVec 5)
  /-- A byte above 0x1F that is no command byte and no drive/head byte the PSR writes (R81, R82). -/
  | unwrittenDeviceByte (v : Byte)
  /-- A bit above the 9 bits of H is set (R85: H is always 9 bits). -/
  | descriptorTooWide
  /-- Neither one byte nor six. -/
  | wrongLength (n : Nat)
  deriving DecidableEq, Repr

/-- What the decoder answers. -/
inductive Decoded where
  | instr (i : Instr)
  | reject (r : Reject)
  deriving DecidableEq, Repr

/-- R77, the opcode map of the host descriptor H, with the write data on the bus (ignored by a read). -/
def decodeHost (h : BitVec 9) (wdata : Word) : Instr :=
  if badDescriptor h then .badAccess h
  else
    match h.getLsbD 6, (h.extractLsb' 2 4).toNat with
    | false, 0x0 => .rdCtrl
    | false, 0x1 => .rdStatus
    | false, 0x2 => .rdLbaLo
    | false, 0x3 => .rdLbaHi
    | false, 0x4 => .rdCount
    | false, 0x5 => .rdDestAddr
    | false, 0x6 => .rdDestLen
    | false, 0x7 => .rdTimeout
    | false, 0x8 => .rdResult
    | false, 0x9 => .rdRetcode
    | false, 0xA => .rdProgress
    | false, 0xB => .rdPollCount
    | false, _ => .rsvdRd (h.extractLsb' 2 2)
    | true, 0x0 => .wrCtrl wdata
    | true, 0x1 => .wrStatus wdata
    | true, 0x2 => .wrLbaLo wdata
    | true, 0x3 => .wrLbaHi wdata
    | true, 0x4 => .wrCount wdata
    | true, 0x5 => .wrDestAddr wdata
    | true, 0x6 => .wrDestLen wdata
    | true, 0x7 => .wrTimeout wdata
    | true, 0x8 => .wrResult wdata
    | true, 0x9 => .wrRetcode wdata
    | true, 0xA => .wrProgress wdata
    | true, 0xB => .wrPollCount wdata
    | true, _ => .rsvdWr (h.extractLsb' 2 2) wdata

/-- R79 and R80: the nine device-bus descriptors the PSR issues; the other 23 are rejected. -/
def decodeBus (b : BitVec 5) : Decoded :=
  match b.toNat with
  | 0x16 => .instr .outDevhead
  | 0x12 => .instr .outSeccount
  | 0x13 => .instr .outLbalo
  | 0x14 => .instr .outLbamid
  | 0x15 => .instr .outLbahi
  | 0x17 => .instr .outCmd
  | 0x07 => .instr .inStatus
  | 0x01 => .instr .inError
  | 0x08 => .instr .inData
  | _ => .reject (.unissuedDescriptor b)

/-- R82: the value of an OUT_CMD. "The PSR writes no other command byte." -/
def decodeCommand (v : Byte) : Decoded :=
  match v.toNat with
  | 0x20 => .instr .cmdReadSectors
  | 0x24 => .instr .cmdReadSectorsExt
  | _ => .reject (.unwrittenDeviceByte v)

/-- R81: the value of an OUT_DEVHEAD, 0b111DLLLL or 0b010D0000. -/
def decodeDevHead (v : Byte) : Decoded :=
  if v.extractLsb' 5 3 = 0b111#3 then .instr (.devheadLba28 (v.extractLsb' 4 1) (v.extractLsb' 0 4))
  else if v.extractLsb' 5 3 = 0b010#3 ∧ v.extractLsb' 0 4 = 0#4 then .instr (.devheadLba48 (v.extractLsb' 4 1))
  else .reject (.unwrittenDeviceByte v)

/-- The one-byte formats together: B below 0x20, then the command bytes 0b001xxxxx, then the drive/head bytes. -/
def decodeDeviceByte (v : Byte) : Decoded :=
  if v.extractLsb' 5 3 = 0b000#3 then decodeBus (v.extractLsb' 0 5)
  else if v.extractLsb' 5 3 = 0b001#3 then decodeCommand v
  else decodeDevHead v

/-- Total on any bytes. -/
def decode : List Byte → Decoded
  | [v] => decodeDeviceByte v
  | [h0, h1, d0, d1, d2, d3] =>
    if h1.extractLsb' 1 7 = 0#7 then .instr (decodeHost (h1.extractLsb' 0 1 ++ h0) (d3 ++ d2 ++ d1 ++ d0))
    else .reject .descriptorTooWide
  | bs => .reject (.wrongLength bs.length)

/-- A host transaction laid out as bytes. -/
def hostBytes (h : BitVec 9) (wdata : Word) : List Byte :=
  [h.extractLsb' 0 8, (h.extractLsb' 8 1).setWidth 8,
    wdata.extractLsb' 0 8, wdata.extractLsb' 8 8, wdata.extractLsb' 16 8, wdata.extractLsb' 24 8]

/-- R76: "A 32-bit aligned read of offset `o` is `H = 0x100 | o`". -/
def readDescriptor (offset : BitVec 6) : BitVec 9 := 0x100#9 ||| offset.setWidth 9

/-- R76: "a 32-bit aligned write is `H = 0x140 | o`". -/
def writeDescriptor (offset : BitVec 6) : BitVec 9 := 0x140#9 ||| offset.setWidth 9

/-- The bytes of an instruction, from the encodings of R76, R79, R81 and R82 and the offsets of spec/10_state.md R19. -/
def encode : Instr → List Byte
  | .rdCtrl => hostBytes (readDescriptor 0x00) 0
  | .wrCtrl w => hostBytes (writeDescriptor 0x00) w
  | .rdStatus => hostBytes (readDescriptor 0x04) 0
  | .wrStatus w => hostBytes (writeDescriptor 0x04) w
  | .rdLbaLo => hostBytes (readDescriptor 0x08) 0
  | .wrLbaLo w => hostBytes (writeDescriptor 0x08) w
  | .rdLbaHi => hostBytes (readDescriptor 0x0C) 0
  | .wrLbaHi w => hostBytes (writeDescriptor 0x0C) w
  | .rdCount => hostBytes (readDescriptor 0x10) 0
  | .wrCount w => hostBytes (writeDescriptor 0x10) w
  | .rdDestAddr => hostBytes (readDescriptor 0x14) 0
  | .wrDestAddr w => hostBytes (writeDescriptor 0x14) w
  | .rdDestLen => hostBytes (readDescriptor 0x18) 0
  | .wrDestLen w => hostBytes (writeDescriptor 0x18) w
  | .rdTimeout => hostBytes (readDescriptor 0x1C) 0
  | .wrTimeout w => hostBytes (writeDescriptor 0x1C) w
  | .rdResult => hostBytes (readDescriptor 0x20) 0
  | .wrResult w => hostBytes (writeDescriptor 0x20) w
  | .rdRetcode => hostBytes (readDescriptor 0x24) 0
  | .wrRetcode w => hostBytes (writeDescriptor 0x24) w
  | .rdProgress => hostBytes (readDescriptor 0x28) 0
  | .wrProgress w => hostBytes (writeDescriptor 0x28) w
  | .rdPollCount => hostBytes (readDescriptor 0x2C) 0
  | .wrPollCount w => hostBytes (writeDescriptor 0x2C) w
  | .rsvdRd n => hostBytes (readDescriptor (0b11#2 ++ n ++ 0b00#2)) 0
  | .rsvdWr n w => hostBytes (writeDescriptor (0b11#2 ++ n ++ 0b00#2)) w
  | .badAccess h => hostBytes h 0
  | .outDevhead => [0x16]
  | .outSeccount => [0x12]
  | .outLbalo => [0x13]
  | .outLbamid => [0x14]
  | .outLbahi => [0x15]
  | .outCmd => [0x17]
  | .inStatus => [0x07]
  | .inError => [0x01]
  | .inData => [0x08]
  | .cmdReadSectors => [0x20]
  | .cmdReadSectorsExt => [0x24]
  | .devheadLba28 d l => [0b111#3 ++ d ++ l]
  | .devheadLba48 d => [0b010#3 ++ d ++ 0b0000#4]

/-- The host descriptor and write data in a word numbered as spec/opcode_table.json numbers it: H in bits 8:0, WDATA from
bit 16 (the operand word behind the two bytes of H). -/
def tableDescriptor (w : Nat) : BitVec 9 := BitVec.ofNat 9 w

/-- See `tableDescriptor`. -/
def tableWdata (w : Nat) : Word := BitVec.ofNat 32 (w >>> 16)

/-- The bytes of a table word of `nbits` bits: one byte for the formats B, CMD and DEVHEAD, six for H. -/
def tableBytes (nbits w : Nat) : List Byte :=
  if nbits ≤ 8 then [BitVec.ofNat 8 w]
  else [BitVec.ofNat 8 w, BitVec.ofNat 8 (w >>> 8), BitVec.ofNat 8 (w >>> 16), BitVec.ofNat 8 (w >>> 24),
    BitVec.ofNat 8 (w >>> 32), BitVec.ofNat 8 (w >>> 40)]

/-- The instruction the decoder reads from a table word; none where it rejects, or where a bit stands above the longest
instruction of the format. -/
def decodeTableWord (nbits w : Nat) : Option Instr :=
  if w < 2 ^ (if nbits ≤ 8 then 8 else 48) then
    match decode (tableBytes nbits w) with
    | .instr i => some i
    | .reject _ => none
  else none

/-! ### The opcode table as data: (mask, match, mnemonic) of each row, by format -/

/-- The 32 rows of format H: the registers, the reserved offsets, the six rows of BAD_ACCESS (R77). -/
def hostRows : List (BitVec 9 × BitVec 9 × String) :=
  [(0x1FF, 0x100, "RD_CTRL"), (0x1FF, 0x140, "WR_CTRL"), (0x1FF, 0x104, "RD_STATUS"), (0x1FF, 0x144, "WR_STATUS"),
    (0x1FF, 0x108, "RD_LBA_LO"), (0x1FF, 0x148, "WR_LBA_LO"), (0x1FF, 0x10C, "RD_LBA_HI"), (0x1FF, 0x14C, "WR_LBA_HI"),
    (0x1FF, 0x110, "RD_COUNT"), (0x1FF, 0x150, "WR_COUNT"), (0x1FF, 0x114, "RD_DEST_ADDR"), (0x1FF, 0x154, "WR_DEST_ADDR")] ++
  [(0x1FF, 0x118, "RD_DEST_LEN"), (0x1FF, 0x158, "WR_DEST_LEN"), (0x1FF, 0x11C, "RD_TIMEOUT"), (0x1FF, 0x15C, "WR_TIMEOUT"),
    (0x1FF, 0x120, "RD_RESULT"), (0x1FF, 0x160, "WR_RESULT"), (0x1FF, 0x124, "RD_RETCODE"), (0x1FF, 0x164, "WR_RETCODE"),
    (0x1FF, 0x128, "RD_PROGRESS"), (0x1FF, 0x168, "WR_PROGRESS"), (0x1FF, 0x12C, "RD_POLL_COUNT"), (0x1FF, 0x16C, "WR_POLL_COUNT")] ++
  [(0x1F3, 0x130, "RSVD_RD"), (0x1F3, 0x170, "RSVD_WR"), (0x180, 0x0, "BAD_ACCESS"), (0x180, 0x80, "BAD_ACCESS"),
    (0x180, 0x180, "BAD_ACCESS"), (0x183, 0x101, "BAD_ACCESS"), (0x183, 0x102, "BAD_ACCESS"), (0x183, 0x103, "BAD_ACCESS")]

/-- The nine rows of format B (R79). -/
def busRows : List (BitVec 5 × BitVec 5 × String) :=
  [(0x1F, 0x16, "OUT_DEVHEAD"), (0x1F, 0x12, "OUT_SECCOUNT"), (0x1F, 0x13, "OUT_LBALO"), (0x1F, 0x14, "OUT_LBAMID"),
    (0x1F, 0x15, "OUT_LBAHI"), (0x1F, 0x17, "OUT_CMD"), (0x1F, 0x7, "IN_STATUS"), (0x1F, 0x1, "IN_ERROR"),
    (0x1F, 0x8, "IN_DATA")]

/-- The command bytes (R82) and the drive/head byte patterns 111DLLLL and 010D0000 (R81). -/
def deviceByteRows : List (BitVec 8 × BitVec 8 × String) :=
  [(0xFF, 0x20, "CMD_READ_SECTORS"), (0xFF, 0x24, "CMD_READ_SECTORS_EXT"), (0xE0, 0xE0, "DEVHEAD_LBA28"), (0xEF, 0x40, "DEVHEAD_LBA48")]

/-- The mnemonics of the rows that match a value. -/
def matching {n : Nat} (rows : List (BitVec n × BitVec n × String)) (v : BitVec n) : List String :=
  (rows.filter fun r => v &&& r.1 == r.2.1).map fun r => r.2.2

end Sys2Proof
end

