-- ==== Sys2Proof/Machine/Fetch.lean ====
section
/-! DEFINITION. Whose turn is next and what it runs. The PSR has no program memory (spec/20_memory.md R69): a host
transaction is decoded from its descriptor H, and the sequencer's transaction is decoded from the descriptor B its position
issues (spec/43_data_port_mux.md R174). -/

namespace Sys2Proof.Machine

/-- What the next step does: a transaction that `exec` runs in a state, or a move that is no transaction. -/
inductive Fetched where
  | run (i : Instr) (s : State)
  | move (o : Host.Outcome State Fault Refusal)

/-- The descriptor of an 8-bit write of a port (R79: DIR = 1, W16 = 0). -/
def writeB (off : BitVec 3) : BitVec 5 := 0b10#2 ++ off

/-- The descriptor B the sequencer's position issues; none in IDLE and VALIDATE (R174), and none at a position that is never
reached. -/
def busDescriptor (s : State) : Option (BitVec 5) :=
  match s.seqState with
  | .idle => none
  | .validate => none
  | .waitNbsy => some 0x07
  | .program => ((taskfile s)[s.seqK.toNat]?).map fun e => writeB e.1
  | .issue => some 0x17
  | .settle => some 0x07
  | .waitDrq => some 0x07
  | .readErr => some 0x01
  | .transfer => some 0x08

/-- The sequencer's turn (spec/41_sequencer.md R136). In IDLE it has no step, and nothing changes (spec/60_exceptions.md
R205; assumption log 8, DESIGN CHOICE). -/
def sequencerTurn (s : State) : Fetched :=
  match s.seqState with
  | .idle => .move (.next s)
  | .validate => .move (.next (validateStep s))
  | .waitNbsy | .program | .issue | .settle | .waitDrq | .readErr | .transfer =>
    match busDescriptor s with
    | none => .move (.fault .positionNeverReached)
    | some b =>
      match decodeBus b with
      | .instr i => .run i s
      | .reject _ => .move (.fault .positionNeverReached)

/-- The next turn in the total order of spec/20_memory.md R65. -/
def fetch (s : State) : Fetched :=
  match s.pending with
  | [] => sequencerTurn s
  | .sequencer :: rest => sequencerTurn { s with pending := rest }
  | .host h wdata :: rest => .run (decodeHost h wdata) { s with pending := rest }
  | .reset :: rest => .move (.next (assertReset { s with pending := rest }))
  | .memRead a n :: rest => .move (hostMemRead a n { s with pending := rest })
  | .memWrite a v :: rest => .move (hostMemWrite a v { s with pending := rest })
  | .poll h mask value :: rest => .move (.next (pollRead h mask value { s with pending := rest }))
  | .pollTest h mask value :: rest => .move (.next (pollBranch h mask value { s with pending := rest }))

/-! ### Placing one instruction (assumption log 3) -/

/-- The sequencer in state `p` with an operation running, and its turn next. -/
def placePosition (p : SeqState) (s : State) : State :=
  { s with pending := .sequencer :: s.pending, seqState := p, statusBusy := true, statusDone := false }

/-- PROGRAM at entry `k` of the list. -/
def placeTaskfile (k : BitVec 4) (s : State) : State := placePosition .program { s with seqK := k }

/-- The 28-bit mode. -/
def select28 (s : State) : State := { s with ctrlMode := false }

/-- The 48-bit mode, which exists only with `HAS_LBA48`. -/
def select48 (s : State) : State := { s with ctrlMode := true, cfg := { s.cfg with hasLba48 := true } }

/-- `s` at the position that issues the transaction `i` of the sequencer; a host transaction has no such position. -/
def placeDevice (i : Instr) (s : State) : State :=
  match i with
  | .outDevhead => placeTaskfile 0 s
  | .outSeccount => placeTaskfile 1 s
  | .outLbalo => placeTaskfile 2 s
  | .outLbamid => placeTaskfile 3 s
  | .outLbahi => placeTaskfile 4 s
  | .outCmd => placePosition .issue s
  | .inStatus => placePosition .waitNbsy s
  | .inError => placePosition .readErr s
  | .inData => placePosition .transfer s
  | .cmdReadSectors => placePosition .issue (select28 s)
  | .cmdReadSectorsExt => placePosition .issue (select48 s)
  | .devheadLba28 d l =>
    placeTaskfile 0 (select28 { s with
      ctrlDrv := d.getLsbD 0, lbaLo := s.lbaLo.extractLsb' 28 4 ++ l ++ s.lbaLo.extractLsb' 0 24 })
  | .devheadLba48 d => placeTaskfile 0 (select48 { s with ctrlDrv := d.getLsbD 0 })
  | .rdCtrl | .wrCtrl _ | .rdStatus | .wrStatus _ | .rdLbaLo | .wrLbaLo _ | .rdLbaHi | .wrLbaHi _ | .rdCount
  | .wrCount _ | .rdDestAddr | .wrDestAddr _ | .rdDestLen | .wrDestLen _ | .rdTimeout | .wrTimeout _ | .rdResult
  | .wrResult _ | .rdRetcode | .wrRetcode _ | .rdProgress | .wrProgress _ | .rdPollCount | .wrPollCount _
  | .rsvdRd _ | .rsvdWr _ _ | .badAccess _ => s

/-- `s` with a table word placed where the next step fetches: a host transaction as the next turn, a transaction of the
sequencer at its position. -/
def placeWord (s : State) (nbits w : Nat) : State :=
  if nbits ≤ 8 then
    match decodeDeviceByte (BitVec.ofNat 8 w) with
    | .instr i => placeDevice i s
    | .reject _ => s
  else { s with pending := .host (tableDescriptor w) (tableWdata w) :: s.pending }

end Sys2Proof.Machine
end

