-- ==== Sys2Proof/Machine/Step.lean ====
section
/-! DEFINITION. One step: the next turn in the total order of the agents (spec/00_scope.md R3), with three outcomes. -/

namespace Sys2Proof.Machine

/-- One atomic transition of one agent. A configuration the spec does not describe is refused (R9). -/
def step (s : State) : Host.Outcome State Fault Refusal :=
  if s.cfg.ok then
    match fetch s with
    | .run i t => exec i t
    | .move o => o
  else .refused .configurationNotDescribed

/-- `s` with one instruction stored where the next step fetches it (assumption log 3). -/
def State.withFetchWord (s : State) (nbits w : Nat) : State := placeWord s nbits w

end Sys2Proof.Machine
end

