-- ==== Sys2Proof/Machine/HostProgram.lean ====
section
/-! DEFINITION. The host side of spec/30_encoding.md R86 to R88 as turns of a host agent: `RD`, `WR`, `POLL` and the
pseudo-instruction `READ_SECTORS`. Host code only: the PSR itself has no program. -/

namespace Sys2Proof.Machine

/-- `RD <reg>` (R86). -/
def hostRd (offset : BitVec 6) : Turn := .host (readDescriptor offset) 0

/-- `WR <reg>, <value>` (R86). -/
def hostWr (offset : BitVec 6) (value : Word) : Turn := .host (writeDescriptor offset) value

/-- `POLL <reg>, <mask>, <value>` (R87). -/
def hostPoll (offset : BitVec 6) (mask value : Word) : Turn := .poll (readDescriptor offset) mask value

/-- `READ_SECTORS <lba>, <count>, <dest>, <len>, <mode>, <drv>` (R88): six writes, the wait for DONE, the read of RETCODE. -/
def readSectors (lba : BitVec 48) (count dest len : Word) (mode drv : BitVec 1) : List Turn :=
  [hostWr 0x08 (lba.extractLsb' 0 32),
    hostWr 0x0C ((lba.extractLsb' 32 16).setWidth 32),
    hostWr 0x10 count,
    hostWr 0x14 dest,
    hostWr 0x18 len,
    hostWr 0x00 ((drv ++ mode ++ 0b1#1).setWidth 32),
    hostPoll 0x04 0x2 0x2,
    hostRd 0x24]

end Sys2Proof.Machine
end

