-- ==== Sys2Proof/Safety.lean ====
section
/-! DEFINITION. What a state reached from reset looks like (spec/10_state.md R37 to R40 and the chapters that bound the
counters), what may change in a step, and the named situations the statements speak of. -/

namespace Sys2Proof.Machine

/-- An operation is in a state after validation (R38). -/
def SeqState.afterValidate : SeqState → Bool
  | .idle | .validate => false
  | .waitNbsy | .program | .issue | .settle | .waitDrq | .readErr | .transfer => true

/-- No sector has been started (R39). -/
def SeqState.beforeData : SeqState → Bool
  | .validate | .waitNbsy | .program | .issue | .settle => true
  | .idle | .waitDrq | .readErr | .transfer => false

/-- The counter of the present state is inside the range R40 gives it. -/
def positionOk (s : State) : Prop :=
  match s.seqState with
  | .idle => True
  | .validate => s.seqK = 0 ∧ s.seqJ = 0 ∧ s.seqN = 0
  | .waitNbsy => s.seqN.toNat < s.timeout.toNat
  | .program => s.seqK.toNat < (taskfile s).length
  | .issue => True
  | .settle => s.seqJ.toNat < s.cfg.settleReads.toNat
  | .waitDrq => s.seqN.toNat < s.timeout.toNat ∧ s.seqI = 0 ∧ s.seqS.toNat < s.count.toNat
  | .readErr => bsy s.lastStatus = false ∧ err s.lastStatus = true ∧ s.seqI = 0 ∧ s.seqS.toNat < s.count.toNat
  | .transfer =>
    bsy s.lastStatus = false ∧ err s.lastStatus = false ∧ drq s.lastStatus = true ∧ s.seqS.toNat < s.count.toNat

/-- The invariant of the PSR: what every step keeps and reset has. -/
structure Inv (s : State) : Prop where
  /-- R37: BUSY = 1 exactly when `seq.state != IDLE`. -/
  busy_iff : s.statusBusy = true ↔ s.seqState ≠ .idle
  /-- R37: BUSY = 1 implies DONE = 0. -/
  busy_not_done : s.statusBusy = true → s.statusDone = false
  /-- R27: TIMEOUT is 1..0xFFFFFFFF. -/
  timeout_pos : s.timeout ≠ 0#32
  /-- R20: MODE is 0 when `HAS_LBA48 = false`. -/
  mode_legal : s.ctrlMode = true → s.cfg.hasLba48 = true
  /-- R25: DEST_ADDR holds `MEM_ADDR_WIDTH` bits. -/
  dest_width : s.destAddr.toNat < 2 ^ s.cfg.memAddrWidth
  /-- R28, R115: RESULT is 0x0000000F from reset or an accepted START until a `Finish`. -/
  result_none : s.statusDone = false → s.result = 0x0000000F
  /-- R29: after a `Finish` the class is one of the four, and RESULT bits 31:24 are 0 (R28). -/
  result_class : s.statusDone = true → (resultClassField s.result).toNat ≤ 3 ∧ s.result.extractLsb' 24 8 = 0#8
  /-- R40. -/
  position : positionOk s
  /-- R137: a request past VALIDATE passes every check (it cannot change while BUSY = 1, R98). -/
  request_valid : s.seqState.afterValidate = true → validationDetail s = 0
  /-- R39: no sector is done and no word transferred before the first data wait. -/
  no_data_yet : s.seqState.beforeData = true → s.seqS = 0 ∧ s.seqI = 0
  /-- Memory is in canonical form. -/
  mem_wf : Memory.wf s.mem
  /-- R47: every listed byte is at an address of `MEM_ADDR_WIDTH` bits. -/
  mem_width : ∀ c ∈ s.mem, c.1 < 2 ^ s.cfg.memAddrWidth

/-- The request registers and request fields of R18. -/
structure SameRequest (s t : State) : Prop where
  mode : t.ctrlMode = s.ctrlMode
  drv : t.ctrlDrv = s.ctrlDrv
  lbaLo : t.lbaLo = s.lbaLo
  lbaHi : t.lbaHi = s.lbaHi
  count : t.count = s.count
  destAddr : t.destAddr = s.destAddr
  destLen : t.destLen = s.destLen
  timeout : t.timeout = s.timeout

/-- Every byte of memory reads as before. -/
def SameMemory (s t : State) : Prop := ∀ a, Memory.read t.mem a = Memory.read s.mem a

/-- Only the sequencer moves: no turn of another agent is queued. -/
def SequencerAlone (s : State) : Prop := s.pending = []

/-- `512 * COUNT`, the bytes of the destination region an operation may write. -/
def requestBytes (s : State) : Nat := 512 * s.count.toNat

/-- An address of the destination region of the request (R47). -/
def inDestination (s : State) (a : Nat) : Prop :=
  (destAddrReg s).toNat ≤ a ∧ a < (destAddrReg s).toNat + requestBytes s

/-- The platform admits every byte of the destination region (R59). -/
def DestinationAdmitted (s : State) : Prop := ∀ a, inDestination s a → memAdmit s.cfg a 1 = true

/-- The stuck state of spec/60_exceptions.md R193: TRANSFER with a byte write the platform does not admit. -/
def Stuck (s : State) : Prop :=
  s.seqState = .transfer ∧ (memAdmit s.cfg (transferAddr s) 1 && memAdmit s.cfg (transferAddr s + 1) 1) = false

/-- The taskfile writes of the selected mode: 5 or 9 (R140). -/
def taskfileLength (s : State) : Nat := if ctrlModeBit s then 9 else 5

/-- The bound of spec/41_sequencer.md R150: `1 + T + P + 1 + S + c * (T + 256)`. -/
def operationBound (s : State) : Nat :=
  1 + s.timeout.toNat + taskfileLength s + 1 + s.cfg.settleReads.toNat + s.count.toNat * (s.timeout.toNat + 256)

/-- The data words a list of events read from the data port, in order. -/
def dataWords : List Event → List Half
  | [] => []
  | .devIn16 _ w :: rest => w :: dataWords rest
  | .devOut8 _ _ :: rest => dataWords rest
  | .devIn8 _ _ :: rest => dataWords rest
  | .memWrite _ _ :: rest => dataWords rest
  | .memRead _ _ _ :: rest => dataWords rest
  | .finish _ _ _ _ :: rest => dataWords rest
  | .hostAccessFault _ :: rest => dataWords rest

/-- The memory byte writes of a list of events, in order. -/
def memWrites : List Event → List (Nat × Byte)
  | [] => []
  | .memWrite a v :: rest => (a, v) :: memWrites rest
  | .devIn16 _ _ :: rest => memWrites rest
  | .memRead _ _ _ :: rest => memWrites rest
  | .devOut8 _ _ :: rest => memWrites rest
  | .devIn8 _ _ :: rest => memWrites rest
  | .finish _ _ _ _ :: rest => memWrites rest
  | .hostAccessFault _ :: rest => memWrites rest

/-- A device-bus transaction, as against the other events. -/
def Event.isBus : Event → Bool
  | .devOut8 _ _ | .devIn8 _ _ | .devIn16 _ _ => true
  | .memWrite _ _ | .memRead _ _ _ | .finish _ _ _ _ | .hostAccessFault _ => false

/-- The device-bus transactions a step in state `p` may make (spec/43_data_port_mux.md R174), `base` being `DEV_BASE`. -/
def issuedIn (base : Half) (p : SeqState) : Event → Prop
  | .devOut8 port v =>
    (p = .program ∧ (port = base + 2 ∨ port = base + 3 ∨ port = base + 4 ∨ port = base + 5 ∨ port = base + 6)) ∨
      (p = .issue ∧ port = base + 7 ∧ (v = 0x20 ∨ v = 0x24))
  | .devIn8 port _ =>
    ((p = .waitNbsy ∨ p = .settle ∨ p = .waitDrq) ∧ port = base + 7) ∨ (p = .readErr ∧ port = base + 1)
  | .devIn16 port _ => p = .transfer ∧ port = base
  | .memWrite _ _ => False
  | .memRead _ _ _ => False
  | .finish _ _ _ _ => False
  | .hostAccessFault _ => False

end Sys2Proof.Machine
end

