-- ==== Sys2Proof/Certificates/Slice0/Obligations.lean ====
section
/-! DEFINITION. The statements for the provers. Each cites the rules of spec/ it formalises; a value of the device is
`nextByte s` or `nextWord s`, and every statement holds whatever it is. -/

open Sys2Proof Sys2Proof.Machine

/-! ## Encoding -/

/-- R77: every 9-bit value of H is matched by exactly one row of the table, and it is the row of the instruction the decoder
gives; the operand of a write is WDATA, and only a BAD_ACCESS row holds an H of another size or alignment. -/
def Obligations.HostDescriptorMatchesExactlyOneRow : Prop :=
  ∀ (h : BitVec 9) (w : Word),
    matching hostRows h = [(decodeHost h w).mnemonic] ∧ (decodeHost h w).wf = true ∧
      ((decodeHost h w = .badAccess h) ↔ (h.toNat / 2 ^ 7 ≠ 0b10 ∨ h.toNat % 4 ≠ 0))

/-- R79, R80: the nine device-bus descriptors decode to their transactions and the other 23 are rejected by name. -/
def Obligations.BusDescriptorsNineIssuedOthersRejected : Prop :=
  ∀ b : BitVec 5,
    (∀ i, decodeBus b = .instr i → matching busRows b = [i.mnemonic] ∧ i.isHost = false) ∧
      (decodeBus b = .reject (.unissuedDescriptor b) ↔ matching busRows b = []) ∧
      ((∃ i, decodeBus b = .instr i) ↔ b.toNat ∈ [0x16, 0x12, 0x13, 0x14, 0x15, 0x17, 0x07, 0x01, 0x08])

/-- R81, R82: a byte the PSR writes to the command or drive/head port is read back as its row, with its fields. -/
def Obligations.DeviceBytesDecodeToTheirRows : Prop :=
  ∀ v : Byte,
    (∀ i, (decodeCommand v = .instr i ∨ decodeDevHead v = .instr i) → matching deviceByteRows v = [i.mnemonic]) ∧
      (∀ d l, decodeDevHead v = .instr (.devheadLba28 d l) ↔ v.toNat = 0xE0 + 16 * d.toNat + l.toNat) ∧
      (∀ d, decodeDevHead v = .instr (.devheadLba48 d) ↔ v.toNat = 0x40 + 16 * d.toNat) ∧
      (decodeCommand v = .instr .cmdReadSectors ↔ v = 0x20) ∧
      (decodeCommand v = .instr .cmdReadSectorsExt ↔ v = 0x24)

/-- Decoding the encoding of any well-formed instruction gives it back, with every operand (section 1 of
spec/30_encoding.md; how the bits of H and WDATA lie in bytes is the model's choice, assumption log 2). -/
def Obligations.DecodeEncodeRoundTrip : Prop :=
  ∀ i : Instr, i.wf = true → decode (encode i) = .instr i

/-- The other direction: whatever bytes decode, the instruction is well-formed and its encoding is those bytes, but for the
write data a read or an illegal access does not use. The layout in bytes is the model's choice (assumption log 2). -/
def Obligations.DecodedBytesReencode : Prop :=
  ∀ (bs : List Byte) (i : Instr), decode bs = .instr i →
    i.wf = true ∧ (encode i).length = bs.length ∧ (encode i).take 2 = bs.take 2 ∧
      ((i.isHost = false ∨ i.isWrite = true) → encode i = bs)

/-- Words written out from the encodings of spec/30_encoding.md, one or more per format. The bits of H, B and the device bytes
are the spec's; that a host word is six bytes, H in two and WDATA in four, each low byte first, is the model's container
(assumption log 2, DESIGN CHOICE). -/
def Obligations.SpelledWordsDecode : Prop :=
  decode [0x48, 0x01, 0x21, 0x00, 0x00, 0x00] = .instr (.wrLbaLo 0x21) ∧
  decode [0x40, 0x01, 0x01, 0x00, 0x00, 0x00] = .instr (.wrCtrl 0x1) ∧
  decode [0x24, 0x01, 0x00, 0x00, 0x00, 0x00] = .instr .rdRetcode ∧
  decode [0x74, 0x01, 0x00, 0x00, 0x00, 0x80] = .instr (.rsvdWr 0b01 0x80000000) ∧
  decode [0xC0, 0x01, 0x00, 0x00, 0x00, 0x00] = .instr (.badAccess 0x1C0) ∧
  decode [0x16] = .instr .outDevhead ∧ decode [0x08] = .instr .inData ∧ decode [0x24] = .instr .cmdReadSectorsExt ∧
  decode [0xFA] = .instr (.devheadLba28 1 0xA) ∧ decode [0x50] = .instr (.devheadLba48 1) ∧
  decode [0x11] = .reject (.unissuedDescriptor 0x11)

/-! ## Host reads -/

/-- R99. -/
def Obligations.RdCtrlReturnsModeAndDrive : Prop :=
  ∀ (s : State) (w : Word), decodeHost 0x100 w = .rdCtrl ∧
    ∃ v : Word, exec .rdCtrl s = .next { s with responses := s.responses ++ [.okayRead v] } ∧
      v.getLsbD 0 = false ∧ (v.getLsbD 1 = true ↔ s.cfg.hasLba48 = true ∧ s.ctrlMode = true) ∧
      v.getLsbD 2 = s.ctrlDrv ∧ ∀ k, 3 ≤ k → v.getLsbD k = false

/-- R101, with the encoding of `seq.state` of R38; BUSY and DONE are never read together. -/
def Obligations.RdStatusReturnsFlagsStateAndLastStatus : Prop :=
  ∀ (s : State) (w : Word), decodeHost 0x104 w = .rdStatus ∧
    ∃ v : Word, exec .rdStatus s = .next { s with responses := s.responses ++ [.okayRead v] } ∧
      v.getLsbD 0 = s.statusBusy ∧ v.getLsbD 1 = s.statusDone ∧ v.toNat / 4 % 4 = 0 ∧
      v.toNat / 256 = s.lastStatus.toNat ∧
      (s.seqState = .idle → v.toNat / 16 % 16 = 0x0) ∧ (s.seqState = .validate → v.toNat / 16 % 16 = 0x1) ∧
      (s.seqState = .waitNbsy → v.toNat / 16 % 16 = 0x2) ∧ (s.seqState = .program → v.toNat / 16 % 16 = 0x3) ∧
      (s.seqState = .issue → v.toNat / 16 % 16 = 0x4) ∧ (s.seqState = .settle → v.toNat / 16 % 16 = 0x5) ∧
      (s.seqState = .waitDrq → v.toNat / 16 % 16 = 0x6) ∧ (s.seqState = .readErr → v.toNat / 16 % 16 = 0x7) ∧
      (s.seqState = .transfer → v.toNat / 16 % 16 = 0x8) ∧
      (Inv s → ¬ (v.getLsbD 0 = true ∧ v.getLsbD 1 = true))

/-- R103, R105, R107, R109, R111, R113: the six request registers, in any state, busy or not; TIMEOUT never reads 0. -/
def Obligations.RequestRegisterReads : Prop :=
  ∀ (s : State) (w : Word),
    (decodeHost 0x108 w = .rdLbaLo ∧ exec .rdLbaLo s = .next { s with responses := s.responses ++ [.okayRead s.lbaLo] }) ∧
    (decodeHost 0x10C w = .rdLbaHi ∧ ∃ v : Word, v.toNat = s.lbaHi.toNat ∧
      exec .rdLbaHi s = .next { s with responses := s.responses ++ [.okayRead v] }) ∧
    (decodeHost 0x110 w = .rdCount ∧ ∃ v : Word, v.toNat = s.count.toNat ∧
      exec .rdCount s = .next { s with responses := s.responses ++ [.okayRead v] }) ∧
    (decodeHost 0x114 w = .rdDestAddr ∧ ∃ v : Word, v.toNat = s.destAddr.toNat % 2 ^ s.cfg.memAddrWidth ∧
      exec .rdDestAddr s = .next { s with responses := s.responses ++ [.okayRead v] }) ∧
    (decodeHost 0x118 w = .rdDestLen ∧ exec .rdDestLen s = .next { s with responses := s.responses ++ [.okayRead s.destLen] }) ∧
    (decodeHost 0x11C w = .rdTimeout ∧ exec .rdTimeout s = .next { s with responses := s.responses ++ [.okayRead s.timeout] } ∧
      (Inv s → s.timeout ≠ 0))

/-- R115. -/
def Obligations.RdResultReturnsResult : Prop :=
  ∀ (s : State) (w : Word), decodeHost 0x120 w = .rdResult ∧
    exec .rdResult s = .next { s with responses := s.responses ++ [.okayRead s.result] } ∧
    (Inv s → s.statusDone = false → s.result = 0x0000000F)

/-- R117: the five cases of RETCODE on RESULT.CLASS, zero for SUCCESS only, its sign, and that the classes 0x4..0xE never
occur. -/
def Obligations.RdRetcodeComputesFromResult : Prop :=
  ∀ (s : State) (w : Word), decodeHost 0x124 w = .rdRetcode ∧
    ∃ v : Word, exec .rdRetcode s = .next { s with responses := s.responses ++ [.okayRead v] } ∧
      (s.result.toNat % 16 = 0 → v = 0) ∧
      (s.result.toNat % 16 = 1 → v.toInt = -1) ∧
      (s.result.toNat % 16 = 2 → v.toInt = -2) ∧
      (s.result.toNat % 16 = 3 → v.toInt = 256 + (s.result.toNat / 256 % 256 : Nat)) ∧
      (4 ≤ s.result.toNat % 16 → v = 0x80000000 ∧ v.toInt < 0) ∧
      (v = 0 ↔ s.result.toNat % 16 = 0) ∧
      (Inv s → s.result.toNat % 16 ≤ 3 ∨ s.result.toNat % 16 = 0xF)

/-- R119 and the read of R121: the sequencer's counters. -/
def Obligations.ProgressAndPollCountReads : Prop :=
  ∀ (s : State) (w : Word),
    (decodeHost 0x128 w = .rdProgress ∧ ∃ v : Word, v.toNat = s.seqS.toNat + 256 * s.seqI.toNat ∧
      exec .rdProgress s = .next { s with responses := s.responses ++ [.okayRead v] }) ∧
    (decodeHost 0x12C w = .rdPollCount ∧ exec .rdPollCount s = .next { s with responses := s.responses ++ [.okayRead s.seqN] })

/-- R123: each of the four reserved offsets reads 0. -/
def Obligations.ReservedOffsetsReadZero : Prop :=
  ∀ (s : State) (w : Word) (n : BitVec 2),
    decodeHost (BitVec.ofNat 9 (0x130 + 4 * n.toNat)) w = .rsvdRd n ∧
      exec (.rsvdRd n) s = .next { s with responses := s.responses ++ [.okayRead 0] }

/-- R56: "CSR reads have no side effects": every read transaction answers OKAY and leaves every register, memory, the device,
the other agents and the history as they were. -/
def Obligations.ReadsHaveNoSideEffect : Prop :=
  ∀ (i : Instr) (s : State), i.isRead = true →
    ∃ v : Word, exec i s = .next { s with responses := s.responses ++ [.okayRead v] }

/-! ## Host writes -/

/-- R100 with R135: MODE and DRV are stored and, with START = 1, an operation begins; ignored while BUSY = 1. -/
def Obligations.WrCtrlStoresAndStarts : Prop :=
  ∀ (s : State) (w : Word), decodeHost 0x140 w = .wrCtrl w ∧
    (s.statusBusy = true → exec (.wrCtrl w) s = .next { s with responses := s.responses ++ [.okay] }) ∧
    (s.statusBusy = false → w.getLsbD 0 = false →
      exec (.wrCtrl w) s = .next { s with
        ctrlMode := (s.cfg.hasLba48 && w.getLsbD 1), ctrlDrv := w.getLsbD 2, responses := s.responses ++ [.okay] }) ∧
    (s.statusBusy = false → w.getLsbD 0 = true →
      exec (.wrCtrl w) s = .next { s with
        ctrlMode := (s.cfg.hasLba48 && w.getLsbD 1), ctrlDrv := w.getLsbD 2, responses := s.responses ++ [.okay]
        statusBusy := true, statusDone := false, result := 0x0000000F, seqState := .validate
        seqK := 0, seqJ := 0, seqS := 0, seqI := 0, seqN := 0, lastStatus := 0 })

/-- R104, R106, R108, R110, R112: a request register takes its bits of WDATA when BUSY = 0, and nothing changes when
BUSY = 1. -/
def Obligations.RequestRegisterWrites : Prop :=
  ∀ (s : State) (w : Word),
    (decodeHost 0x148 w = .wrLbaLo w ∧ decodeHost 0x14C w = .wrLbaHi w ∧ decodeHost 0x150 w = .wrCount w ∧
      decodeHost 0x154 w = .wrDestAddr w ∧ decodeHost 0x158 w = .wrDestLen w) ∧
    (s.statusBusy = true → ∀ i ∈ [Instr.wrLbaLo w, .wrLbaHi w, .wrCount w, .wrDestAddr w, .wrDestLen w],
      exec i s = .next { s with responses := s.responses ++ [.okay] }) ∧
    (s.statusBusy = false →
      exec (.wrLbaLo w) s = .next { s with lbaLo := w, responses := s.responses ++ [.okay] } ∧
      (∃ v : Half, v.toNat = w.toNat % 2 ^ 16 ∧
        exec (.wrLbaHi w) s = .next { s with lbaHi := v, responses := s.responses ++ [.okay] }) ∧
      (∃ v : Byte, v.toNat = w.toNat % 2 ^ 8 ∧
        exec (.wrCount w) s = .next { s with count := v, responses := s.responses ++ [.okay] }) ∧
      (∃ v : Word, v.toNat = w.toNat % 2 ^ s.cfg.memAddrWidth ∧
        exec (.wrDestAddr w) s = .next { s with destAddr := v, responses := s.responses ++ [.okay] }) ∧
      exec (.wrDestLen w) s = .next { s with destLen := w, responses := s.responses ++ [.okay] })

/-- R114: TIMEOUT is WARL, 0 stores 1. -/
def Obligations.WrTimeoutStoresLegalValue : Prop :=
  ∀ (s : State) (w : Word), decodeHost 0x15C w = .wrTimeout w ∧
    (s.statusBusy = true → exec (.wrTimeout w) s = .next { s with responses := s.responses ++ [.okay] }) ∧
    (s.statusBusy = false → w = 0 → exec (.wrTimeout w) s = .next { s with timeout := 1, responses := s.responses ++ [.okay] }) ∧
    (s.statusBusy = false → w ≠ 0 → exec (.wrTimeout w) s = .next { s with timeout := w, responses := s.responses ++ [.okay] })

/-- R102, R116, R118, R120, R122, R124: writes to read-only registers and reserved offsets return OKAY and change nothing,
busy or not. -/
def Obligations.ReadOnlyWritesIgnored : Prop :=
  ∀ (s : State) (w : Word) (n : BitVec 2),
    (decodeHost 0x144 w = .wrStatus w ∧ decodeHost 0x160 w = .wrResult w ∧ decodeHost 0x164 w = .wrRetcode w ∧
      decodeHost 0x168 w = .wrProgress w ∧ decodeHost 0x16C w = .wrPollCount w ∧
      decodeHost (BitVec.ofNat 9 (0x170 + 4 * n.toNat)) w = .rsvdWr n w) ∧
    ∀ i ∈ [Instr.wrStatus w, .wrResult w, .wrRetcode w, .wrProgress w, .wrPollCount w, .rsvdWr n w],
      exec i s = .next { s with responses := s.responses ++ [.okay] }

/-- R96: any H of another size or alignment, with or without write data, busy or not, is answered SLVERR and changes no
state; the fault is recorded. -/
def Obligations.BadAccessAnswersSlverr : Prop :=
  ∀ (s : State) (h : BitVec 9) (w : Word), (h.toNat / 2 ^ 7 ≠ 0b10 ∨ h.toNat % 4 ≠ 0) →
    decodeHost h w = .badAccess h ∧
      exec (.badAccess h) s = .next { s with
        responses := s.responses ++ [.slverr], history := s.history ++ [.hostAccessFault h] }

/-- R98 and R148: while BUSY = 1 no host transaction ends or alters the running operation: every host transaction, of any
kind, answers and leaves all but the response and the record of a HostAccessFault as it was; and every write is OKAY. -/
def Obligations.HostTransactionsWhileBusyAlterNothing : Prop :=
  ∀ (i : Instr) (s : State), i.isHost = true → s.statusBusy = true →
    ∃ r evs, exec i s = .next { s with responses := s.responses ++ [r], history := s.history ++ evs } ∧
      (∀ e ∈ evs, e.isBus = false ∧ ∃ h, e = .hostAccessFault h) ∧ (i.isWrite = true → r = .okay ∧ evs = [])

/-- R125: a read of a writable register returns the value left by the last accepted write, as transformed by its WARL and
RAZ/WI bits. -/
def Obligations.ReadReturnsLastAcceptedWrite : Prop :=
  ∀ (s t : State) (w : Word), s.statusBusy = false →
    (exec (.wrLbaLo w) s = .next t → ∃ u, exec .rdLbaLo t = .next u ∧ u.responses.getLast? = some (.okayRead w)) ∧
    (exec (.wrLbaHi w) s = .next t →
      ∃ u, exec .rdLbaHi t = .next u ∧ u.responses.getLast? = some (.okayRead (w &&& 0x0000FFFF))) ∧
    (exec (.wrCount w) s = .next t →
      ∃ u, exec .rdCount t = .next u ∧ u.responses.getLast? = some (.okayRead (w &&& 0x000000FF))) ∧
    (exec (.wrDestAddr w) s = .next t → ∃ u v, exec .rdDestAddr t = .next u ∧
      u.responses.getLast? = some (.okayRead v) ∧ v.toNat = w.toNat % 2 ^ s.cfg.memAddrWidth) ∧
    (exec (.wrDestLen w) s = .next t → ∃ u, exec .rdDestLen t = .next u ∧ u.responses.getLast? = some (.okayRead w)) ∧
    (exec (.wrTimeout w) s = .next t →
      ∃ u, exec .rdTimeout t = .next u ∧ u.responses.getLast? = some (.okayRead (if w = 0 then 1 else w))) ∧
    (exec (.wrCtrl w) s = .next t → ∃ u, exec .rdCtrl t = .next u ∧
      u.responses.getLast? = some (.okayRead (w &&& (if s.cfg.hasLba48 then 0x6 else 0x4))))

/-- R41: what a finished operation left never influences a later one: an accepted START in two states that differ only in
the sequencer's internal registers, RESULT and DONE leads to the same state, hence to the same steps ever after. -/
def Obligations.StartForgetsRetainedState : Prop :=
  ∀ (s : State) (w : Word) (p : SeqState) (k : BitVec 4) (j sc ix ls : Byte) (n r : Word) (d : Bool),
    s.statusBusy = false → w.getLsbD 0 = true →
    ∃ t, exec (.wrCtrl w) s = .next t ∧
      exec (.wrCtrl w) { s with
        seqState := p, seqK := k, seqJ := j, seqS := sc, seqI := ix, seqN := n, lastStatus := ls, result := r
        statusDone := d } = .next t

/-! ## The sequencer's transactions -/

/-- R137: the VALIDATE step, on a turn of the sequencer (`u` is the state without the turn). `d` is the four checks on exact numbers; with none failing the not-busy wait begins at count 0,
otherwise the operation finishes INVALID_PARAMETERS with `d` in DETAIL and nothing else done. -/
def Obligations.ValidateChecksTheRequest : Prop :=
  ∀ s u : State, s.cfg.ok = true →
    ((s.pending = [] ∧ u = s) ∨ ∃ rest, s.pending = .sequencer :: rest ∧ u = { s with pending := rest }) →
    s.seqState = .validate →
    ∃ (d : BitVec 4) (r : Word),
      let n := if s.cfg.hasLba48 = true ∧ s.ctrlMode = true then 48 else 28
      let lba := s.lbaHi.toNat * 2 ^ 32 + s.lbaLo.toNat
      let c := s.count.toNat
      let dest := s.destAddr.toNat % 2 ^ s.cfg.memAddrWidth
      (d.getLsbD 0 = true ↔ lba ≥ 2 ^ n ∨ lba + c > 2 ^ n) ∧ (d.getLsbD 1 = true ↔ c = 0) ∧
      (d.getLsbD 2 = true ↔ s.destLen.toNat < 512 * c) ∧
      (d.getLsbD 3 = true ↔ dest + 512 * c > 2 ^ s.cfg.memAddrWidth) ∧ r.toNat = 1 + 16 * d.toNat ∧
      (d = 0 → step s = .next { u with seqN := 0, seqState := .waitNbsy }) ∧
      (d ≠ 0 → step s = .next { u with
        result := r, seqState := .idle, statusBusy := false, statusDone := true
        history := s.history ++ [.finish .invalidParameters d 0 0] })

/-- R141 with R140: the five writes of the 28-bit mode, one per PROGRAM step, in order. -/
def Obligations.Taskfile28Writes : Prop :=
  ∀ s : State, s.seqState = .program → (s.cfg.hasLba48 = false ∨ s.ctrlMode = false) →
    let lba := s.lbaHi.toNat * 2 ^ 32 + s.lbaLo.toNat
    (s.seqK = 0 → ∃ v : Byte, v.toNat = 0xE0 + 16 * s.ctrlDrv.toNat + lba / 2 ^ 24 % 16 ∧
      exec .outDevhead s = .next { s with seqK := 1, history := s.history ++ [.devOut8 (s.cfg.devBase + 6) v] }) ∧
    (s.seqK = 1 →
      exec .outSeccount s = .next { s with seqK := 2, history := s.history ++ [.devOut8 (s.cfg.devBase + 2) s.count] }) ∧
    (s.seqK = 2 → ∃ v : Byte, v.toNat = lba % 2 ^ 8 ∧
      exec .outLbalo s = .next { s with seqK := 3, history := s.history ++ [.devOut8 (s.cfg.devBase + 3) v] }) ∧
    (s.seqK = 3 → ∃ v : Byte, v.toNat = lba / 2 ^ 8 % 2 ^ 8 ∧
      exec .outLbamid s = .next { s with seqK := 4, history := s.history ++ [.devOut8 (s.cfg.devBase + 4) v] }) ∧
    (s.seqK = 4 → ∃ v : Byte, v.toNat = lba / 2 ^ 16 % 2 ^ 8 ∧
      exec .outLbahi s = .next { s with
        seqK := 5, seqState := .issue, history := s.history ++ [.devOut8 (s.cfg.devBase + 5) v] })

/-- R142 with R140: the nine writes of the 48-bit mode, the high-order bytes first. -/
def Obligations.Taskfile48Writes : Prop :=
  ∀ s : State, s.seqState = .program → s.cfg.hasLba48 = true → s.ctrlMode = true →
    let lba := s.lbaHi.toNat * 2 ^ 32 + s.lbaLo.toNat
    (s.seqK = 0 → ∃ v : Byte, v.toNat = 0x40 + 16 * s.ctrlDrv.toNat ∧
      exec .outDevhead s = .next { s with seqK := 1, history := s.history ++ [.devOut8 (s.cfg.devBase + 6) v] }) ∧
    (s.seqK = 1 →
      exec .outSeccount s = .next { s with seqK := 2, history := s.history ++ [.devOut8 (s.cfg.devBase + 2) 0] }) ∧
    (s.seqK = 2 → ∃ v : Byte, v.toNat = lba / 2 ^ 24 % 2 ^ 8 ∧
      exec .outLbalo s = .next { s with seqK := 3, history := s.history ++ [.devOut8 (s.cfg.devBase + 3) v] }) ∧
    (s.seqK = 3 → ∃ v : Byte, v.toNat = lba / 2 ^ 32 % 2 ^ 8 ∧
      exec .outLbamid s = .next { s with seqK := 4, history := s.history ++ [.devOut8 (s.cfg.devBase + 4) v] }) ∧
    (s.seqK = 4 → ∃ v : Byte, v.toNat = lba / 2 ^ 40 % 2 ^ 8 ∧
      exec .outLbahi s = .next { s with seqK := 5, history := s.history ++ [.devOut8 (s.cfg.devBase + 5) v] }) ∧
    (s.seqK = 5 →
      exec .outSeccount s = .next { s with seqK := 6, history := s.history ++ [.devOut8 (s.cfg.devBase + 2) s.count] }) ∧
    (s.seqK = 6 → ∃ v : Byte, v.toNat = lba % 2 ^ 8 ∧
      exec .outLbalo s = .next { s with seqK := 7, history := s.history ++ [.devOut8 (s.cfg.devBase + 3) v] }) ∧
    (s.seqK = 7 → ∃ v : Byte, v.toNat = lba / 2 ^ 8 % 2 ^ 8 ∧
      exec .outLbamid s = .next { s with seqK := 8, history := s.history ++ [.devOut8 (s.cfg.devBase + 4) v] }) ∧
    (s.seqK = 8 → ∃ v : Byte, v.toNat = lba / 2 ^ 16 % 2 ^ 8 ∧
      exec .outLbahi s = .next { s with
        seqK := 9, seqState := .issue, history := s.history ++ [.devOut8 (s.cfg.devBase + 5) v] })

/-- R81: the drive/head bytes, each the first PROGRAM step of its mode, written with its two fields to port 6. -/
def Obligations.DriveHeadBytesWritten : Prop :=
  ∀ (s : State) (d : BitVec 1) (l : BitVec 4), s.seqState = .program → s.seqK = 0 → d.toNat = s.ctrlDrv.toNat →
    ((s.cfg.hasLba48 = false ∨ s.ctrlMode = false) → l.toNat = s.lbaLo.toNat / 2 ^ 24 % 16 →
      ∃ v : Byte, v.toNat = 0xE0 + 16 * d.toNat + l.toNat ∧
        exec (.devheadLba28 d l) s = .next { s with seqK := 1, history := s.history ++ [.devOut8 (s.cfg.devBase + 6) v] } ∧
        exec .outDevhead s = exec (.devheadLba28 d l) s) ∧
    (s.cfg.hasLba48 = true → s.ctrlMode = true →
      ∃ v : Byte, v.toNat = 0x40 + 16 * d.toNat ∧
        exec (.devheadLba48 d) s = .next { s with seqK := 1, history := s.history ++ [.devOut8 (s.cfg.devBase + 6) v] } ∧
        exec .outDevhead s = exec (.devheadLba48 d) s)

/-- R143 with R82: one command write, 0x20 or 0x24 by the mode, then SETTLE, or the data wait when `SETTLE_READS = 0`. -/
def Obligations.IssueWritesTheCommand : Prop :=
  ∀ (s : State) (i : Instr) (v : Byte), s.seqState = .issue →
    ((s.cfg.hasLba48 = true ∧ s.ctrlMode = true ∧ v = 0x24 ∧ (i = .outCmd ∨ i = .cmdReadSectorsExt)) ∨
      ((s.cfg.hasLba48 = false ∨ s.ctrlMode = false) ∧ v = 0x20 ∧ (i = .outCmd ∨ i = .cmdReadSectors))) →
    (s.cfg.settleReads ≠ 0 → exec i s = .next { s with
      seqJ := 0, seqState := .settle, history := s.history ++ [.devOut8 (s.cfg.devBase + 7) v] }) ∧
    (s.cfg.settleReads = 0 → exec i s = .next { s with
      seqJ := 0, seqN := 0, seqState := .waitDrq, history := s.history ++ [.devOut8 (s.cfg.devBase + 7) v] })

/-- R158 with R155 and R156: one status read of the not-busy wait, by BSY of the device's answer and the count. -/
def Obligations.WaitNbsyStatusRead : Prop :=
  ∀ s : State, s.seqState = .waitNbsy →
    let v := nextByte s
    let read : State := { s with
      byteAnswers := s.byteAnswers.tail, draws := s.draws + 1, lastStatus := v, seqN := s.seqN + 1
      history := s.history ++ [.devIn8 (s.cfg.devBase + 7) v] }
    (v.getLsbD 7 = false → exec .inStatus s = .next { read with seqK := 0, seqState := .program }) ∧
    (v.getLsbD 7 = true → s.seqN.toNat + 1 < s.timeout.toNat → exec .inStatus s = .next read) ∧
    (v.getLsbD 7 = true → s.timeout.toNat ≤ s.seqN.toNat + 1 →
      ∃ r : Word, r.toNat = 0x12 + 2 ^ 16 * v.toNat ∧
        exec .inStatus s = .next { read with
          result := r, seqState := .idle, statusBusy := false, statusDone := true
          history := read.history ++ [.finish .deviceTimeout 0x1 0 v] })

/-- R159 with R155, R156 and R160: one status read of the data wait. BSY hides ERR and DRQ, ERR wins over DRQ, and a met
condition wins over the timeout of the same read. -/
def Obligations.WaitDrqStatusRead : Prop :=
  ∀ s : State, s.seqState = .waitDrq →
    let v := nextByte s
    let read : State := { s with
      byteAnswers := s.byteAnswers.tail, draws := s.draws + 1, lastStatus := v, seqN := s.seqN + 1
      history := s.history ++ [.devIn8 (s.cfg.devBase + 7) v] }
    (v.getLsbD 7 = false → v.getLsbD 0 = true → exec .inStatus s = .next { read with seqState := .readErr }) ∧
    (v.getLsbD 7 = false → v.getLsbD 0 = false → v.getLsbD 3 = true →
      exec .inStatus s = .next { read with seqI := 0, seqState := .transfer }) ∧
    ((v.getLsbD 7 = true ∨ (v.getLsbD 0 = false ∧ v.getLsbD 3 = false)) → s.seqN.toNat + 1 < s.timeout.toNat →
      exec .inStatus s = .next read) ∧
    ((v.getLsbD 7 = true ∨ (v.getLsbD 0 = false ∧ v.getLsbD 3 = false)) → s.timeout.toNat ≤ s.seqN.toNat + 1 →
      ∃ r : Word, r.toNat = 0x22 + 2 ^ 16 * v.toNat ∧
        exec .inStatus s = .next { read with
          result := r, seqState := .idle, statusBusy := false, statusDone := true
          history := read.history ++ [.finish .deviceTimeout 0x2 0 v] })

/-- R162: a settle read is neither evaluated nor counted; after `SETTLE_READS` of them the data wait begins at count 0. -/
def Obligations.SettleReadsAreNotEvaluated : Prop :=
  ∀ s : State, s.seqState = .settle →
    let v := nextByte s
    let read : State := { s with
      byteAnswers := s.byteAnswers.tail, draws := s.draws + 1, lastStatus := v, seqJ := s.seqJ + 1
      history := s.history ++ [.devIn8 (s.cfg.devBase + 7) v] }
    (s.seqJ + 1 ≠ s.cfg.settleReads → exec .inStatus s = .next read) ∧
    (s.seqJ + 1 = s.cfg.settleReads → exec .inStatus s = .next { read with seqN := 0, seqState := .waitDrq })

/-- R161: one read of the error port, kept raw in RESULT beside the status byte with ERR. -/
def Obligations.ReadErrFinishesDeviceError : Prop :=
  ∀ s : State, s.seqState = .readErr →
    ∃ r : Word, r.toNat = 0x3 + 2 ^ 8 * (nextByte s).toNat + 2 ^ 16 * s.lastStatus.toNat ∧
      exec .inError s = .next { s with
        byteAnswers := s.byteAnswers.tail, draws := s.draws + 1
        result := r, seqState := .idle, statusBusy := false, statusDone := true
        history := s.history ++ [.devIn8 (s.cfg.devBase + 1) (nextByte s),
          .finish .deviceError 0 (nextByte s) s.lastStatus] }

/-- R175 with R48: a word before the last of a sector. The word's low byte goes to the address of R176, its high byte to the
next, in this order, and no other byte of memory changes. -/
def Obligations.TransferStoresWordLowByteFirst : Prop :=
  ∀ s : State, s.seqState = .transfer → s.seqI.toNat < 255 →
    let a := s.destAddr.toNat % 2 ^ s.cfg.memAddrWidth + 512 * s.seqS.toNat + 2 * s.seqI.toNat
    let w := nextWord s
    a + 1 < 2 ^ s.cfg.memAddrWidth → memAdmit s.cfg a 1 = true → memAdmit s.cfg (a + 1) 1 = true →
    ∃ (m : Memory) (lo hi : Byte), lo.toNat = w.toNat % 256 ∧ hi.toNat = w.toNat / 256 ∧
      exec .inData s = .next { s with
        wordAnswers := s.wordAnswers.tail, draws := s.draws + 1, mem := m, seqI := s.seqI + 1
        history := s.history ++ [.devIn16 s.cfg.devBase w, .memWrite a lo, .memWrite (a + 1) hi] } ∧
      Memory.read m a = some lo ∧ Memory.read m (a + 1) = some hi ∧
      ∀ x, x ≠ a → x ≠ a + 1 → Memory.read m x = Memory.read s.mem x

/-- R175: word 255 completes the sector: SUCCESS after the last sector of the request, the next data wait otherwise. -/
def Obligations.TransferCompletesSector : Prop :=
  ∀ s : State, s.seqState = .transfer → s.seqI.toNat = 255 →
    let a := s.destAddr.toNat % 2 ^ s.cfg.memAddrWidth + 512 * s.seqS.toNat + 2 * 255
    let w := nextWord s
    a + 1 < 2 ^ s.cfg.memAddrWidth → memAdmit s.cfg a 1 = true → memAdmit s.cfg (a + 1) 1 = true →
    ∃ (m : Memory) (lo hi : Byte), lo.toNat = w.toNat % 256 ∧ hi.toNat = w.toNat / 256 ∧
      Memory.read m a = some lo ∧ Memory.read m (a + 1) = some hi ∧
      (∀ x, x ≠ a → x ≠ a + 1 → Memory.read m x = Memory.read s.mem x) ∧
      let stored : State := { s with
        wordAnswers := s.wordAnswers.tail, draws := s.draws + 1, mem := m, seqI := 0, seqS := s.seqS + 1
        history := s.history ++ [.devIn16 s.cfg.devBase w, .memWrite a lo, .memWrite (a + 1) hi] }
      (s.seqS.toNat + 1 ≠ s.count.toNat → exec .inData s = .next { stored with seqN := 0, seqState := .waitDrq }) ∧
      (s.seqS.toNat + 1 = s.count.toNat → ∃ r : Word, r.toNat = 2 ^ 16 * s.lastStatus.toNat ∧
        exec .inData s = .next { stored with
          result := r, seqState := .idle, statusBusy := false, statusDone := true
          history := stored.history ++ [.finish .success 0 0 s.lastStatus] })

/-- R181: where a byte write is not admitted the step has no transition: no data read, no write, the sequencer stays in
TRANSFER. -/
def Obligations.TransferNotAdmittedStays : Prop :=
  ∀ s : State, s.seqState = .transfer → transferAddr s + 1 < 2 ^ s.cfg.memAddrWidth →
    (memAdmit s.cfg (transferAddr s) 1 = false ∨ memAdmit s.cfg (transferAddr s + 1) 1 = false) →
    exec .inData s = .next s

/-- R174: each transaction of the sequencer completes only in the state that issues it, and in every other state it is not
issued: its meaning stops, by name. -/
def Obligations.TransactionsOnlyInTheirState : Prop :=
  ∀ (i : Instr) (s : State), i.isHost = false →
    ((∃ t, exec i s = .next t) →
      (i ∈ [Instr.outDevhead, .outSeccount, .outLbalo, .outLbamid, .outLbahi] → s.seqState = .program) ∧
      (∀ d l, i = .devheadLba28 d l ∨ i = .devheadLba48 d → s.seqState = .program) ∧
      (i ∈ [Instr.outCmd, .cmdReadSectors, .cmdReadSectorsExt] → s.seqState = .issue) ∧
      (i = .inStatus → s.seqState = .waitNbsy ∨ s.seqState = .settle ∨ s.seqState = .waitDrq) ∧
      (i = .inError → s.seqState = .readErr) ∧ (i = .inData → s.seqState = .transfer)) ∧
    ((s.seqState = .idle ∨ s.seqState = .validate) → exec i s = .fault .transactionNotIssued)

/-! ## Reset -/

/-- R43 with R215: every register of the state after reset, of the machine the model starts as and of any state after a
reset turn, which always completes. -/
def Obligations.ResetValuesOfEveryRegister : Prop :=
  (∀ (s : State) (rest : List Turn), s.cfg.ok = true → s.pending = .reset :: rest → ∃ t, step s = .next t) ∧
  ∀ t : State,
    (t = State.reset ∨ (∃ c, t = State.resetWith c) ∨ ∃ s rest, s.pending = .reset :: rest ∧ step s = .next t) →
    t.ctrlMode = false ∧ t.ctrlDrv = false ∧ t.statusBusy = false ∧ t.statusDone = false ∧ t.lbaLo = 0 ∧ t.lbaHi = 0 ∧
      t.count = 0 ∧ t.destAddr = 0 ∧ t.destLen = 0 ∧
      t.timeout = (if t.cfg.timeoutResetRaw = 0 then 1 else t.cfg.timeoutResetRaw) ∧ t.result = 0x0000000F ∧
      retcodeWord t.result = 0x80000000 ∧ t.seqState = .idle ∧ t.seqK = 0 ∧ t.seqJ = 0 ∧ t.seqS = 0 ∧ t.seqI = 0 ∧
      t.seqN = 0 ∧ t.lastStatus = 0

/-- R216, R217: reset at any point makes no device-bus transaction, no memory write and no `Finish`: the history and memory
stay. That the responses, the other agents' turns, the device's queued answers, `draws` and the parameters stay too is the
model's choice (assumption log 11, DESIGN CHOICE). -/
def Obligations.ResetTouchesNothingElse : Prop :=
  ∀ (s t : State) (rest : List Turn), s.pending = .reset :: rest → step s = .next t →
    t.mem = s.mem ∧ t.history = s.history ∧ t.byteAnswers = s.byteAnswers ∧ t.wordAnswers = s.wordAnswers ∧
      t.draws = s.draws ∧ t.responses = s.responses ∧ t.pending = rest ∧ t.cfg = s.cfg

/-! ## One step -/

/-- A host transaction's step runs the instruction its descriptor decodes to, after taking the turn off the queue; the
bytes of the descriptor and its write data decode to the same instruction. -/
def Obligations.StepRunsDecodedHostTransaction : Prop :=
  ∀ (s : State) (h : BitVec 9) (w : Word) (rest : List Turn) (i : Instr), s.cfg.ok = true → s.pending = .host h w :: rest →
    decode (hostBytes h w) = .instr i → step s = exec i { s with pending := rest }

/-- A turn of the sequencer runs the transaction its position issues (R174; R140 for the order of PROGRAM), in the state
without the turn; the command and drive/head bytes are what OUT_CMD and OUT_DEVHEAD run. -/
def Obligations.StepRunsIssuedTransaction : Prop :=
  ∀ s u : State, s.cfg.ok = true → ((s.pending = [] ∧ u = s) ∨ ∃ rest, s.pending = .sequencer :: rest ∧ u = { s with pending := rest }) →
    (s.seqState = .waitNbsy ∨ s.seqState = .settle ∨ s.seqState = .waitDrq → step s = exec .inStatus u) ∧
    (s.seqState = .issue → step s = exec .outCmd u ∧
      (if s.cfg.hasLba48 = true ∧ s.ctrlMode = true then step s = exec .cmdReadSectorsExt u
        else step s = exec .cmdReadSectors u)) ∧
    (s.seqState = .readErr → step s = exec .inError u) ∧
    (s.seqState = .transfer → step s = exec .inData u) ∧
    (s.seqState = .program → ∀ i,
      [Instr.outDevhead, .outSeccount, .outLbalo, .outLbamid, .outLbahi, .outSeccount, .outLbalo, .outLbamid,
        .outLbahi][s.seqK.toNat]? = some i →
      s.seqK.toNat < (if s.cfg.hasLba48 = true ∧ s.ctrlMode = true then 9 else 5) → step s = exec i u)

/-- R205: IDLE is inert: with no turn of a host agent or of reset, nothing changes. -/
def Obligations.IdleIsInert : Prop :=
  ∀ s : State, s.cfg.ok = true → s.seqState = .idle →
    (s.pending = [] → step s = .next s) ∧
    (∀ rest, s.pending = .sequencer :: rest → step s = .next { s with pending := rest })

/-- R9: a `TIMEOUT_RESET` of 0 is used as 1, a `MEM_ADDR_WIDTH` outside 16..32 is refused. A `DEV_BASE` with
`DEV_BASE + 7 > 0xFFFF`, against R46, is refused too, and every refusal is made by `step`: both are the model's choice
(assumption log 14, DESIGN CHOICE). In a described configuration no step is refused. -/
def Obligations.UndescribedConfigurationRefused : Prop :=
  ∀ s : State,
    (s.cfg.timeoutResetRaw = 0 → (State.resetWith s.cfg).timeout = 1) ∧
    ((s.cfg.memAddrWidth < 16 ∨ 32 < s.cfg.memAddrWidth) → step s = .refused .configurationNotDescribed) ∧
    (0xFFFF < s.cfg.devBase.toNat + 7 → step s = .refused .configurationNotDescribed) ∧
    (16 ≤ s.cfg.memAddrWidth → s.cfg.memAddrWidth ≤ 32 → s.cfg.devBase.toNat + 7 ≤ 0xFFFF → ∀ r, step s ≠ .refused r)

/-- What `State.withFetchWord` places, the very next step runs: it answers `exec` of the decoded instruction in a state with
the same queue of turns, and (but for IN_DATA, whose address the state gives) a next state. The placing is the model's own
choice (assumption log 3). -/
def Obligations.PlacedWordRunsNext : Prop :=
  ∀ (s : State) (nbits w : Nat) (i : Instr), s.cfg.ok = true → decodeTableWord nbits w = some i →
    ∃ u, u.pending = s.pending ∧ step (s.withFetchWord nbits w) = exec i u ∧ (i.isHost = true → u = s) ∧
      (i ≠ .inData → ∃ t, step (s.withFetchWord nbits w) = .next t)

/-- The parameters are fixed: no step changes the configuration (R8: they are arguments of the model). -/
def Obligations.StepKeepsConfiguration : Prop :=
  ∀ s t : State, step s = .next t → t.cfg = s.cfg

/-! ## The agents around the PSR -/

/-- R12 and R66 for a host agent's memory accesses: a write is read back and every other byte is as before; `MemRead(addr, n)`
is one event, recorded with the `n` bytes it returns, and leaves memory as it is; the PSR's registers are untouched. An
address of more than `MEM_ADDR_WIDTH` bits does not exist (R47). The form of the turns, that a host agent's write is not
recorded and the fault are the model's choice (assumption logs 4 and 12). -/
def Obligations.HostMemoryAccess : Prop :=
  ∀ (s : State) (a n : Nat) (v : Byte) (rest : List Turn), s.cfg.ok = true →
    (s.pending = .memWrite a v :: rest → a < 2 ^ s.cfg.memAddrWidth →
      ∃ m, step s = .next { s with pending := rest, mem := m } ∧ Memory.read m a = some v ∧
        ∀ x, x ≠ a → Memory.read m x = Memory.read s.mem x) ∧
    (s.pending = .memRead a n :: rest → a + n ≤ 2 ^ s.cfg.memAddrWidth →
      ∃ bytes, step s = .next { s with
          pending := rest, responses := s.responses ++ [.memBytes bytes]
          history := s.history ++ [.memRead a n bytes] } ∧
        bytes.length = n ∧ ∀ k, k < n → bytes[k]? = some (Memory.read s.mem (a + k))) ∧
    (s.pending = .memRead a n :: rest → 2 ^ s.cfg.memAddrWidth < a + n → step s = .fault (.noSuchAddress (a + n - 1))) ∧
    (s.pending = .memWrite a v :: rest → 2 ^ s.cfg.memAddrWidth ≤ a → step s = .fault (.noSuchAddress a))

/-- R87: `POLL` expands to a read and a test that goes back to it until `(x & mask) = value`. That the sequencer has one turn
between two reads is the model's choice (assumption log 6). -/
def Obligations.PollLoopsUntilValue : Prop :=
  ∀ (s : State) (h : BitVec 9) (mask value x : Word) (rest : List Turn), s.cfg.ok = true →
    (s.pending = .poll h mask value :: rest →
      step s = .next { s with pending := .host h 0 :: .pollTest h mask value :: rest }) ∧
    (s.pending = .pollTest h mask value :: rest → s.responses.getLast? = some (.okayRead x) →
      step s = .next { s with
        pending := if x &&& mask = value then rest else .sequencer :: .poll h mask value :: rest })

/-! ## Invariants and whole-machine rules -/

/-- The state after reset satisfies the invariant, for every configuration. -/
def Obligations.ResetSatisfiesInvariant : Prop :=
  Inv State.reset ∧ ∀ c : Config, Inv (State.resetWith c)

/-- Every step of any agent keeps the invariant (R37, R27, R20, R25, R28, R29, R40, R137, R47 and canonical memory). -/
def Obligations.StepKeepsInvariant : Prop :=
  ∀ s t : State, Inv s → step s = .next t → Inv t

/-- R37: BUSY = 1 exactly while `seq.state` is not IDLE and never together with DONE; both are 0 after reset; once one of them
is 1, exactly one is 1 after every step but reset. -/
def Obligations.ExactlyOneOfBusyAndDone : Prop :=
  State.reset.statusBusy = false ∧ State.reset.statusDone = false ∧
  ∀ s t : State, Inv s → step s = .next t →
    (t.statusBusy = true → t.statusDone = false) ∧ (t.statusBusy = true ↔ t.seqState ≠ .idle) ∧
    ((∃ rest, s.pending = .reset :: rest) → t.statusBusy = false ∧ t.statusDone = false) ∧
    ((∀ rest, s.pending ≠ .reset :: rest) → (s.statusBusy = true ∨ s.statusDone = true) → t.statusBusy ≠ t.statusDone)

/-- R18: no sequencer step writes a request register; and (R98) while BUSY = 1 no turn but reset does. -/
def Obligations.RequestFixedWhileBusy : Prop :=
  ∀ s t : State, step s = .next t →
    ((s.pending = [] ∨ ∃ rest, s.pending = .sequencer :: rest) → SameRequest s t) ∧
    (s.statusBusy = true → (∀ rest, s.pending ≠ .reset :: rest) → SameRequest s t)

/-- R136, R174, R80: every step appends its events to the history; at most one of them is a device-bus transaction, it is
one the step's state issues, only a turn of the sequencer makes one, and a `Finish` is the last event of its step. R12: the
PSR never reads memory; only a host program's `MemRead` does, and that is the one event of its step. -/
def Obligations.StepMakesOnlyIssuedTransactions : Prop :=
  ∀ s t : State, step s = .next t →
    ∃ evs, t.history = s.history ++ evs ∧ (evs.filter Event.isBus).length ≤ 1 ∧
      (∀ e ∈ evs, e.isBus = true →
        issuedIn s.cfg.devBase s.seqState e ∧ (s.pending = [] ∨ ∃ rest, s.pending = .sequencer :: rest)) ∧
      (∀ cls d e st, .finish cls d e st ∈ evs.dropLast → False) ∧
      (∀ a n bytes, .memRead a n bytes ∈ evs → evs = [.memRead a n bytes] ∧ ∃ rest, s.pending = .memRead a n :: rest)

/-- R174: "Each non-IDLE, non-VALIDATE step makes exactly one", unless the sequencer is stuck, and R193: no other state lacks
a transition while BUSY = 1. -/
def Obligations.BusySequencerStepsUnlessStuck : Prop :=
  ∀ s : State, Inv s → s.cfg.ok = true → SequencerAlone s → s.statusBusy = true →
    ∃ t, step s = .next t ∧ (t = s ↔ Stuck s) ∧
      (¬ Stuck s → s.seqState ≠ .validate →
        ∃ evs, t.history = s.history ++ evs ∧ (evs.filter Event.isBus).length = 1)

/-- R47: only TRANSFER steps of the PSR write memory, and only the destination region of the request. -/
def Obligations.MemoryWrittenOnlyInDestination : Prop :=
  ∀ s t : State, Inv s → step s = .next t → (∀ a v rest, s.pending ≠ .memWrite a v :: rest) →
    (∀ a, ¬ inDestination s a → Memory.read t.mem a = Memory.read s.mem a) ∧
      (s.seqState ≠ .transfer → SameMemory s t)

/-- R151: in which state an operation ended, with which class and which raw bytes, the status and error bytes being the ones
the device gave. -/
def Obligations.OperationEndsByStateTable : Prop :=
  ∀ s t : State, Inv s → step s = .next t → (∀ rest, s.pending ≠ .reset :: rest) → s.statusBusy = true → t.seqState = .idle →
    t.statusDone = true ∧
    match s.seqState with
    | .validate => t.result.toNat % 16 = 1 ∧ t.result.toNat / 16 % 16 = (validationDetail s).toNat ∧
        t.result.toNat / 256 = 0 ∧ (validationDetail s) ≠ 0
    | .waitNbsy => t.result.toNat = 0x12 + 2 ^ 16 * t.lastStatus.toNat ∧ t.seqN = t.timeout ∧ t.lastStatus = nextByte s
    | .waitDrq => t.result.toNat = 0x22 + 2 ^ 16 * t.lastStatus.toNat ∧ t.seqN = t.timeout ∧ t.lastStatus = nextByte s
    | .readErr => t.result.toNat = 0x03 + 2 ^ 8 * (nextByte s).toNat + 2 ^ 16 * t.lastStatus.toNat ∧
        t.lastStatus = s.lastStatus ∧ t.lastStatus.getLsbD 0 = true
    | .transfer => t.result.toNat = 2 ^ 16 * t.lastStatus.toNat ∧ t.lastStatus = s.lastStatus ∧ t.seqS = t.count ∧ t.seqI = 0
    | .idle | .program | .issue | .settle => False

/-- R150: an operation finishes within `1 + T + P + 1 + S + c * (T + 256)` sequencer steps whatever the device answers,
provided every memory write it issues is admitted. -/
def Obligations.OperationFinishesWithinBound : Prop :=
  ∀ s : State, Inv s → s.cfg.ok = true → SequencerAlone s → s.seqState = .validate → DestinationAdmitted s →
    ∃ k t, k ≤ operationBound s ∧ core.run k s = .next t ∧ t.seqState = .idle ∧ t.statusDone = true

/-- R157 (a): within one wait the number of evaluated status reads never exceeds TIMEOUT. -/
def Obligations.PollCountNeverExceedsTimeout : Prop :=
  ∀ s t : State, Inv s → step s = .next t → s.statusBusy = true → (∀ rest, s.pending ≠ .reset :: rest) →
    (s.seqN.toNat ≤ s.timeout.toNat) → t.seqN.toNat ≤ t.timeout.toNat ∧
      (t.seqN ≠ s.seqN → t.seqN = 0 ∨ t.seqN.toNat = s.seqN.toNat + 1)

/-- R177 with R48, R63, R176, R178 and R180: at every point of an operation begun at VALIDATE with only the sequencer moving,
the data words read so far are `256 * seq.s + seq.i`; word `m` stands at `DEST_ADDR + 2 * m`, low byte first, as the device
gave it; every other byte of memory is as it was at the start; two byte writes were made per word; and when the operation
has finished SUCCESS exactly `256 * COUNT` words were read. -/
def Obligations.DataDeliveredInOrder : Prop :=
  ∀ (s t : State) (k : Nat), Inv s → SequencerAlone s → s.seqState = .validate → core.run k s = .next t →
    ∃ evs, t.history = s.history ++ evs ∧
      let ws := dataWords evs
      let dest := (destAddrReg s).toNat
      ws.length = 256 * t.seqS.toNat + t.seqI.toNat ∧ (memWrites evs).length = 2 * ws.length ∧
      (∀ (m : Nat) (w : Half), ws[m]? = some w →
        ∃ lo hi : Byte, lo.toNat = w.toNat % 256 ∧ hi.toNat = w.toNat / 256 ∧
          Memory.read t.mem (dest + 2 * m) = some lo ∧ Memory.read t.mem (dest + 2 * m + 1) = some hi) ∧
      (∀ a, (a < dest ∨ dest + 2 * ws.length ≤ a) → Memory.read t.mem a = Memory.read s.mem a) ∧
      (t.seqState = .idle → t.seqI = 0 ∧ (t.result.toNat % 16 = 0 → ws.length = 256 * s.count.toNat))
end

