-- ==== Sys2Proof/Laws/State.lean ====
section
/-! SUPPORT. One lemma per field per shared update, each true by rfl, so that no proof unfolds a record update. -/

namespace Sys2Proof.Machine

/-! ### The fields after the host's response -/

@[simp] theorem respond_cfg (r : Response) (s : State) : (respond r s).cfg = s.cfg := rfl
@[simp] theorem respond_ctrlMode (r : Response) (s : State) : (respond r s).ctrlMode = s.ctrlMode := rfl
@[simp] theorem respond_ctrlDrv (r : Response) (s : State) : (respond r s).ctrlDrv = s.ctrlDrv := rfl
@[simp] theorem respond_statusBusy (r : Response) (s : State) : (respond r s).statusBusy = s.statusBusy := rfl
@[simp] theorem respond_statusDone (r : Response) (s : State) : (respond r s).statusDone = s.statusDone := rfl
@[simp] theorem respond_lbaLo (r : Response) (s : State) : (respond r s).lbaLo = s.lbaLo := rfl
@[simp] theorem respond_lbaHi (r : Response) (s : State) : (respond r s).lbaHi = s.lbaHi := rfl
@[simp] theorem respond_count (r : Response) (s : State) : (respond r s).count = s.count := rfl
@[simp] theorem respond_destAddr (r : Response) (s : State) : (respond r s).destAddr = s.destAddr := rfl
@[simp] theorem respond_destLen (r : Response) (s : State) : (respond r s).destLen = s.destLen := rfl
@[simp] theorem respond_timeout (r : Response) (s : State) : (respond r s).timeout = s.timeout := rfl
@[simp] theorem respond_result (r : Response) (s : State) : (respond r s).result = s.result := rfl
@[simp] theorem respond_seqState (r : Response) (s : State) : (respond r s).seqState = s.seqState := rfl
@[simp] theorem respond_seqK (r : Response) (s : State) : (respond r s).seqK = s.seqK := rfl
@[simp] theorem respond_seqJ (r : Response) (s : State) : (respond r s).seqJ = s.seqJ := rfl
@[simp] theorem respond_seqS (r : Response) (s : State) : (respond r s).seqS = s.seqS := rfl
@[simp] theorem respond_seqI (r : Response) (s : State) : (respond r s).seqI = s.seqI := rfl
@[simp] theorem respond_seqN (r : Response) (s : State) : (respond r s).seqN = s.seqN := rfl
@[simp] theorem respond_lastStatus (r : Response) (s : State) : (respond r s).lastStatus = s.lastStatus := rfl
@[simp] theorem respond_mem (r : Response) (s : State) : (respond r s).mem = s.mem := rfl
@[simp] theorem respond_pending (r : Response) (s : State) : (respond r s).pending = s.pending := rfl
@[simp] theorem respond_byteAnswers (r : Response) (s : State) : (respond r s).byteAnswers = s.byteAnswers := rfl
@[simp] theorem respond_wordAnswers (r : Response) (s : State) : (respond r s).wordAnswers = s.wordAnswers := rfl
@[simp] theorem respond_draws (r : Response) (s : State) : (respond r s).draws = s.draws := rfl
@[simp] theorem respond_history (r : Response) (s : State) : (respond r s).history = s.history := rfl
@[simp] theorem respond_responses (r : Response) (s : State) : (respond r s).responses = s.responses ++ [r] := rfl

/-! ### The fields after `MemWrite` -/

@[simp] theorem memWriteByte_cfg (a : Nat) (v : Byte) (s : State) : (memWriteByte a v s).cfg = s.cfg := rfl
@[simp] theorem memWriteByte_ctrlMode (a : Nat) (v : Byte) (s : State) : (memWriteByte a v s).ctrlMode = s.ctrlMode := rfl
@[simp] theorem memWriteByte_ctrlDrv (a : Nat) (v : Byte) (s : State) : (memWriteByte a v s).ctrlDrv = s.ctrlDrv := rfl
@[simp] theorem memWriteByte_statusBusy (a : Nat) (v : Byte) (s : State) : (memWriteByte a v s).statusBusy = s.statusBusy := rfl
@[simp] theorem memWriteByte_statusDone (a : Nat) (v : Byte) (s : State) : (memWriteByte a v s).statusDone = s.statusDone := rfl
@[simp] theorem memWriteByte_lbaLo (a : Nat) (v : Byte) (s : State) : (memWriteByte a v s).lbaLo = s.lbaLo := rfl
@[simp] theorem memWriteByte_lbaHi (a : Nat) (v : Byte) (s : State) : (memWriteByte a v s).lbaHi = s.lbaHi := rfl
@[simp] theorem memWriteByte_count (a : Nat) (v : Byte) (s : State) : (memWriteByte a v s).count = s.count := rfl
@[simp] theorem memWriteByte_destAddr (a : Nat) (v : Byte) (s : State) : (memWriteByte a v s).destAddr = s.destAddr := rfl
@[simp] theorem memWriteByte_destLen (a : Nat) (v : Byte) (s : State) : (memWriteByte a v s).destLen = s.destLen := rfl
@[simp] theorem memWriteByte_timeout (a : Nat) (v : Byte) (s : State) : (memWriteByte a v s).timeout = s.timeout := rfl
@[simp] theorem memWriteByte_result (a : Nat) (v : Byte) (s : State) : (memWriteByte a v s).result = s.result := rfl
@[simp] theorem memWriteByte_seqState (a : Nat) (v : Byte) (s : State) : (memWriteByte a v s).seqState = s.seqState := rfl
@[simp] theorem memWriteByte_seqK (a : Nat) (v : Byte) (s : State) : (memWriteByte a v s).seqK = s.seqK := rfl
@[simp] theorem memWriteByte_seqJ (a : Nat) (v : Byte) (s : State) : (memWriteByte a v s).seqJ = s.seqJ := rfl
@[simp] theorem memWriteByte_seqS (a : Nat) (v : Byte) (s : State) : (memWriteByte a v s).seqS = s.seqS := rfl
@[simp] theorem memWriteByte_seqI (a : Nat) (v : Byte) (s : State) : (memWriteByte a v s).seqI = s.seqI := rfl
@[simp] theorem memWriteByte_seqN (a : Nat) (v : Byte) (s : State) : (memWriteByte a v s).seqN = s.seqN := rfl
@[simp] theorem memWriteByte_lastStatus (a : Nat) (v : Byte) (s : State) : (memWriteByte a v s).lastStatus = s.lastStatus := rfl
@[simp] theorem memWriteByte_mem (a : Nat) (v : Byte) (s : State) : (memWriteByte a v s).mem = Memory.write s.mem a v := rfl
@[simp] theorem memWriteByte_pending (a : Nat) (v : Byte) (s : State) : (memWriteByte a v s).pending = s.pending := rfl
@[simp] theorem memWriteByte_byteAnswers (a : Nat) (v : Byte) (s : State) : (memWriteByte a v s).byteAnswers = s.byteAnswers := rfl
@[simp] theorem memWriteByte_wordAnswers (a : Nat) (v : Byte) (s : State) : (memWriteByte a v s).wordAnswers = s.wordAnswers := rfl
@[simp] theorem memWriteByte_draws (a : Nat) (v : Byte) (s : State) : (memWriteByte a v s).draws = s.draws := rfl
@[simp] theorem memWriteByte_history (a : Nat) (v : Byte) (s : State) : (memWriteByte a v s).history = s.history ++ [.memWrite a v] := rfl
@[simp] theorem memWriteByte_responses (a : Nat) (v : Byte) (s : State) : (memWriteByte a v s).responses = s.responses := rfl

/-! ### The fields after `MemRead` -/

@[simp] theorem memReadBytes_cfg (a n : Nat) (s : State) : (memReadBytes a n s).cfg = s.cfg := rfl
@[simp] theorem memReadBytes_ctrlMode (a n : Nat) (s : State) : (memReadBytes a n s).ctrlMode = s.ctrlMode := rfl
@[simp] theorem memReadBytes_ctrlDrv (a n : Nat) (s : State) : (memReadBytes a n s).ctrlDrv = s.ctrlDrv := rfl
@[simp] theorem memReadBytes_statusBusy (a n : Nat) (s : State) : (memReadBytes a n s).statusBusy = s.statusBusy := rfl
@[simp] theorem memReadBytes_statusDone (a n : Nat) (s : State) : (memReadBytes a n s).statusDone = s.statusDone := rfl
@[simp] theorem memReadBytes_lbaLo (a n : Nat) (s : State) : (memReadBytes a n s).lbaLo = s.lbaLo := rfl
@[simp] theorem memReadBytes_lbaHi (a n : Nat) (s : State) : (memReadBytes a n s).lbaHi = s.lbaHi := rfl
@[simp] theorem memReadBytes_count (a n : Nat) (s : State) : (memReadBytes a n s).count = s.count := rfl
@[simp] theorem memReadBytes_destAddr (a n : Nat) (s : State) : (memReadBytes a n s).destAddr = s.destAddr := rfl
@[simp] theorem memReadBytes_destLen (a n : Nat) (s : State) : (memReadBytes a n s).destLen = s.destLen := rfl
@[simp] theorem memReadBytes_timeout (a n : Nat) (s : State) : (memReadBytes a n s).timeout = s.timeout := rfl
@[simp] theorem memReadBytes_result (a n : Nat) (s : State) : (memReadBytes a n s).result = s.result := rfl
@[simp] theorem memReadBytes_seqState (a n : Nat) (s : State) : (memReadBytes a n s).seqState = s.seqState := rfl
@[simp] theorem memReadBytes_seqK (a n : Nat) (s : State) : (memReadBytes a n s).seqK = s.seqK := rfl
@[simp] theorem memReadBytes_seqJ (a n : Nat) (s : State) : (memReadBytes a n s).seqJ = s.seqJ := rfl
@[simp] theorem memReadBytes_seqS (a n : Nat) (s : State) : (memReadBytes a n s).seqS = s.seqS := rfl
@[simp] theorem memReadBytes_seqI (a n : Nat) (s : State) : (memReadBytes a n s).seqI = s.seqI := rfl
@[simp] theorem memReadBytes_seqN (a n : Nat) (s : State) : (memReadBytes a n s).seqN = s.seqN := rfl
@[simp] theorem memReadBytes_lastStatus (a n : Nat) (s : State) : (memReadBytes a n s).lastStatus = s.lastStatus := rfl
@[simp] theorem memReadBytes_mem (a n : Nat) (s : State) : (memReadBytes a n s).mem = s.mem := rfl
@[simp] theorem memReadBytes_pending (a n : Nat) (s : State) : (memReadBytes a n s).pending = s.pending := rfl
@[simp] theorem memReadBytes_byteAnswers (a n : Nat) (s : State) : (memReadBytes a n s).byteAnswers = s.byteAnswers := rfl
@[simp] theorem memReadBytes_wordAnswers (a n : Nat) (s : State) : (memReadBytes a n s).wordAnswers = s.wordAnswers := rfl
@[simp] theorem memReadBytes_draws (a n : Nat) (s : State) : (memReadBytes a n s).draws = s.draws := rfl
@[simp] theorem memReadBytes_history (a n : Nat) (s : State) : (memReadBytes a n s).history = s.history ++ [.memRead a n (Memory.readBytes s.mem a n)] := rfl
@[simp] theorem memReadBytes_responses (a n : Nat) (s : State) : (memReadBytes a n s).responses = s.responses := rfl

/-! ### The fields after `DevOut8` -/

@[simp] theorem devOut8_cfg (off : BitVec 3) (v : Byte) (s : State) : (devOut8 off v s).cfg = s.cfg := rfl
@[simp] theorem devOut8_ctrlMode (off : BitVec 3) (v : Byte) (s : State) : (devOut8 off v s).ctrlMode = s.ctrlMode := rfl
@[simp] theorem devOut8_ctrlDrv (off : BitVec 3) (v : Byte) (s : State) : (devOut8 off v s).ctrlDrv = s.ctrlDrv := rfl
@[simp] theorem devOut8_statusBusy (off : BitVec 3) (v : Byte) (s : State) : (devOut8 off v s).statusBusy = s.statusBusy := rfl
@[simp] theorem devOut8_statusDone (off : BitVec 3) (v : Byte) (s : State) : (devOut8 off v s).statusDone = s.statusDone := rfl
@[simp] theorem devOut8_lbaLo (off : BitVec 3) (v : Byte) (s : State) : (devOut8 off v s).lbaLo = s.lbaLo := rfl
@[simp] theorem devOut8_lbaHi (off : BitVec 3) (v : Byte) (s : State) : (devOut8 off v s).lbaHi = s.lbaHi := rfl
@[simp] theorem devOut8_count (off : BitVec 3) (v : Byte) (s : State) : (devOut8 off v s).count = s.count := rfl
@[simp] theorem devOut8_destAddr (off : BitVec 3) (v : Byte) (s : State) : (devOut8 off v s).destAddr = s.destAddr := rfl
@[simp] theorem devOut8_destLen (off : BitVec 3) (v : Byte) (s : State) : (devOut8 off v s).destLen = s.destLen := rfl
@[simp] theorem devOut8_timeout (off : BitVec 3) (v : Byte) (s : State) : (devOut8 off v s).timeout = s.timeout := rfl
@[simp] theorem devOut8_result (off : BitVec 3) (v : Byte) (s : State) : (devOut8 off v s).result = s.result := rfl
@[simp] theorem devOut8_seqState (off : BitVec 3) (v : Byte) (s : State) : (devOut8 off v s).seqState = s.seqState := rfl
@[simp] theorem devOut8_seqK (off : BitVec 3) (v : Byte) (s : State) : (devOut8 off v s).seqK = s.seqK := rfl
@[simp] theorem devOut8_seqJ (off : BitVec 3) (v : Byte) (s : State) : (devOut8 off v s).seqJ = s.seqJ := rfl
@[simp] theorem devOut8_seqS (off : BitVec 3) (v : Byte) (s : State) : (devOut8 off v s).seqS = s.seqS := rfl
@[simp] theorem devOut8_seqI (off : BitVec 3) (v : Byte) (s : State) : (devOut8 off v s).seqI = s.seqI := rfl
@[simp] theorem devOut8_seqN (off : BitVec 3) (v : Byte) (s : State) : (devOut8 off v s).seqN = s.seqN := rfl
@[simp] theorem devOut8_lastStatus (off : BitVec 3) (v : Byte) (s : State) : (devOut8 off v s).lastStatus = s.lastStatus := rfl
@[simp] theorem devOut8_mem (off : BitVec 3) (v : Byte) (s : State) : (devOut8 off v s).mem = s.mem := rfl
@[simp] theorem devOut8_pending (off : BitVec 3) (v : Byte) (s : State) : (devOut8 off v s).pending = s.pending := rfl
@[simp] theorem devOut8_byteAnswers (off : BitVec 3) (v : Byte) (s : State) : (devOut8 off v s).byteAnswers = s.byteAnswers := rfl
@[simp] theorem devOut8_wordAnswers (off : BitVec 3) (v : Byte) (s : State) : (devOut8 off v s).wordAnswers = s.wordAnswers := rfl
@[simp] theorem devOut8_draws (off : BitVec 3) (v : Byte) (s : State) : (devOut8 off v s).draws = s.draws := rfl
@[simp] theorem devOut8_history (off : BitVec 3) (v : Byte) (s : State) : (devOut8 off v s).history = s.history ++ [.devOut8 (devPort s off) v] := rfl
@[simp] theorem devOut8_responses (off : BitVec 3) (v : Byte) (s : State) : (devOut8 off v s).responses = s.responses := rfl

/-! ### The fields after `DevIn8` -/

@[simp] theorem devIn8_cfg (off : BitVec 3) (s : State) : (devIn8 off s).cfg = s.cfg := rfl
@[simp] theorem devIn8_ctrlMode (off : BitVec 3) (s : State) : (devIn8 off s).ctrlMode = s.ctrlMode := rfl
@[simp] theorem devIn8_ctrlDrv (off : BitVec 3) (s : State) : (devIn8 off s).ctrlDrv = s.ctrlDrv := rfl
@[simp] theorem devIn8_statusBusy (off : BitVec 3) (s : State) : (devIn8 off s).statusBusy = s.statusBusy := rfl
@[simp] theorem devIn8_statusDone (off : BitVec 3) (s : State) : (devIn8 off s).statusDone = s.statusDone := rfl
@[simp] theorem devIn8_lbaLo (off : BitVec 3) (s : State) : (devIn8 off s).lbaLo = s.lbaLo := rfl
@[simp] theorem devIn8_lbaHi (off : BitVec 3) (s : State) : (devIn8 off s).lbaHi = s.lbaHi := rfl
@[simp] theorem devIn8_count (off : BitVec 3) (s : State) : (devIn8 off s).count = s.count := rfl
@[simp] theorem devIn8_destAddr (off : BitVec 3) (s : State) : (devIn8 off s).destAddr = s.destAddr := rfl
@[simp] theorem devIn8_destLen (off : BitVec 3) (s : State) : (devIn8 off s).destLen = s.destLen := rfl
@[simp] theorem devIn8_timeout (off : BitVec 3) (s : State) : (devIn8 off s).timeout = s.timeout := rfl
@[simp] theorem devIn8_result (off : BitVec 3) (s : State) : (devIn8 off s).result = s.result := rfl
@[simp] theorem devIn8_seqState (off : BitVec 3) (s : State) : (devIn8 off s).seqState = s.seqState := rfl
@[simp] theorem devIn8_seqK (off : BitVec 3) (s : State) : (devIn8 off s).seqK = s.seqK := rfl
@[simp] theorem devIn8_seqJ (off : BitVec 3) (s : State) : (devIn8 off s).seqJ = s.seqJ := rfl
@[simp] theorem devIn8_seqS (off : BitVec 3) (s : State) : (devIn8 off s).seqS = s.seqS := rfl
@[simp] theorem devIn8_seqI (off : BitVec 3) (s : State) : (devIn8 off s).seqI = s.seqI := rfl
@[simp] theorem devIn8_seqN (off : BitVec 3) (s : State) : (devIn8 off s).seqN = s.seqN := rfl
@[simp] theorem devIn8_lastStatus (off : BitVec 3) (s : State) : (devIn8 off s).lastStatus = s.lastStatus := rfl
@[simp] theorem devIn8_mem (off : BitVec 3) (s : State) : (devIn8 off s).mem = s.mem := rfl
@[simp] theorem devIn8_pending (off : BitVec 3) (s : State) : (devIn8 off s).pending = s.pending := rfl
@[simp] theorem devIn8_byteAnswers (off : BitVec 3) (s : State) : (devIn8 off s).byteAnswers = s.byteAnswers.tail := rfl
@[simp] theorem devIn8_wordAnswers (off : BitVec 3) (s : State) : (devIn8 off s).wordAnswers = s.wordAnswers := rfl
@[simp] theorem devIn8_draws (off : BitVec 3) (s : State) : (devIn8 off s).draws = s.draws + 1 := rfl
@[simp] theorem devIn8_history (off : BitVec 3) (s : State) : (devIn8 off s).history = s.history ++ [.devIn8 (devPort s off) (nextByte s)] := rfl
@[simp] theorem devIn8_responses (off : BitVec 3) (s : State) : (devIn8 off s).responses = s.responses := rfl

/-! ### The fields after `DevIn16` -/

@[simp] theorem devIn16_cfg (s : State) : (devIn16 s).cfg = s.cfg := rfl
@[simp] theorem devIn16_ctrlMode (s : State) : (devIn16 s).ctrlMode = s.ctrlMode := rfl
@[simp] theorem devIn16_ctrlDrv (s : State) : (devIn16 s).ctrlDrv = s.ctrlDrv := rfl
@[simp] theorem devIn16_statusBusy (s : State) : (devIn16 s).statusBusy = s.statusBusy := rfl
@[simp] theorem devIn16_statusDone (s : State) : (devIn16 s).statusDone = s.statusDone := rfl
@[simp] theorem devIn16_lbaLo (s : State) : (devIn16 s).lbaLo = s.lbaLo := rfl
@[simp] theorem devIn16_lbaHi (s : State) : (devIn16 s).lbaHi = s.lbaHi := rfl
@[simp] theorem devIn16_count (s : State) : (devIn16 s).count = s.count := rfl
@[simp] theorem devIn16_destAddr (s : State) : (devIn16 s).destAddr = s.destAddr := rfl
@[simp] theorem devIn16_destLen (s : State) : (devIn16 s).destLen = s.destLen := rfl
@[simp] theorem devIn16_timeout (s : State) : (devIn16 s).timeout = s.timeout := rfl
@[simp] theorem devIn16_result (s : State) : (devIn16 s).result = s.result := rfl
@[simp] theorem devIn16_seqState (s : State) : (devIn16 s).seqState = s.seqState := rfl
@[simp] theorem devIn16_seqK (s : State) : (devIn16 s).seqK = s.seqK := rfl
@[simp] theorem devIn16_seqJ (s : State) : (devIn16 s).seqJ = s.seqJ := rfl
@[simp] theorem devIn16_seqS (s : State) : (devIn16 s).seqS = s.seqS := rfl
@[simp] theorem devIn16_seqI (s : State) : (devIn16 s).seqI = s.seqI := rfl
@[simp] theorem devIn16_seqN (s : State) : (devIn16 s).seqN = s.seqN := rfl
@[simp] theorem devIn16_lastStatus (s : State) : (devIn16 s).lastStatus = s.lastStatus := rfl
@[simp] theorem devIn16_mem (s : State) : (devIn16 s).mem = s.mem := rfl
@[simp] theorem devIn16_pending (s : State) : (devIn16 s).pending = s.pending := rfl
@[simp] theorem devIn16_byteAnswers (s : State) : (devIn16 s).byteAnswers = s.byteAnswers := rfl
@[simp] theorem devIn16_wordAnswers (s : State) : (devIn16 s).wordAnswers = s.wordAnswers.tail := rfl
@[simp] theorem devIn16_draws (s : State) : (devIn16 s).draws = s.draws + 1 := rfl
@[simp] theorem devIn16_history (s : State) : (devIn16 s).history = s.history ++ [.devIn16 (devPort s 0) (nextWord s)] := rfl
@[simp] theorem devIn16_responses (s : State) : (devIn16 s).responses = s.responses := rfl

/-! ### The fields after a read of the status port -/

@[simp] theorem readStatus_cfg (s : State) : (readStatus s).cfg = s.cfg := rfl
@[simp] theorem readStatus_ctrlMode (s : State) : (readStatus s).ctrlMode = s.ctrlMode := rfl
@[simp] theorem readStatus_ctrlDrv (s : State) : (readStatus s).ctrlDrv = s.ctrlDrv := rfl
@[simp] theorem readStatus_statusBusy (s : State) : (readStatus s).statusBusy = s.statusBusy := rfl
@[simp] theorem readStatus_statusDone (s : State) : (readStatus s).statusDone = s.statusDone := rfl
@[simp] theorem readStatus_lbaLo (s : State) : (readStatus s).lbaLo = s.lbaLo := rfl
@[simp] theorem readStatus_lbaHi (s : State) : (readStatus s).lbaHi = s.lbaHi := rfl
@[simp] theorem readStatus_count (s : State) : (readStatus s).count = s.count := rfl
@[simp] theorem readStatus_destAddr (s : State) : (readStatus s).destAddr = s.destAddr := rfl
@[simp] theorem readStatus_destLen (s : State) : (readStatus s).destLen = s.destLen := rfl
@[simp] theorem readStatus_timeout (s : State) : (readStatus s).timeout = s.timeout := rfl
@[simp] theorem readStatus_result (s : State) : (readStatus s).result = s.result := rfl
@[simp] theorem readStatus_seqState (s : State) : (readStatus s).seqState = s.seqState := rfl
@[simp] theorem readStatus_seqK (s : State) : (readStatus s).seqK = s.seqK := rfl
@[simp] theorem readStatus_seqJ (s : State) : (readStatus s).seqJ = s.seqJ := rfl
@[simp] theorem readStatus_seqS (s : State) : (readStatus s).seqS = s.seqS := rfl
@[simp] theorem readStatus_seqI (s : State) : (readStatus s).seqI = s.seqI := rfl
@[simp] theorem readStatus_seqN (s : State) : (readStatus s).seqN = s.seqN := rfl
@[simp] theorem readStatus_lastStatus (s : State) : (readStatus s).lastStatus = nextByte s := rfl
@[simp] theorem readStatus_mem (s : State) : (readStatus s).mem = s.mem := rfl
@[simp] theorem readStatus_pending (s : State) : (readStatus s).pending = s.pending := rfl
@[simp] theorem readStatus_byteAnswers (s : State) : (readStatus s).byteAnswers = s.byteAnswers.tail := rfl
@[simp] theorem readStatus_wordAnswers (s : State) : (readStatus s).wordAnswers = s.wordAnswers := rfl
@[simp] theorem readStatus_draws (s : State) : (readStatus s).draws = s.draws + 1 := rfl
@[simp] theorem readStatus_history (s : State) : (readStatus s).history = s.history ++ [.devIn8 (devPort s 7) (nextByte s)] := rfl
@[simp] theorem readStatus_responses (s : State) : (readStatus s).responses = s.responses := rfl

/-! ### The fields after `HostAccessFault` -/

@[simp] theorem hostAccessFault_cfg (h : BitVec 9) (s : State) : (hostAccessFault h s).cfg = s.cfg := rfl
@[simp] theorem hostAccessFault_ctrlMode (h : BitVec 9) (s : State) : (hostAccessFault h s).ctrlMode = s.ctrlMode := rfl
@[simp] theorem hostAccessFault_ctrlDrv (h : BitVec 9) (s : State) : (hostAccessFault h s).ctrlDrv = s.ctrlDrv := rfl
@[simp] theorem hostAccessFault_statusBusy (h : BitVec 9) (s : State) : (hostAccessFault h s).statusBusy = s.statusBusy := rfl
@[simp] theorem hostAccessFault_statusDone (h : BitVec 9) (s : State) : (hostAccessFault h s).statusDone = s.statusDone := rfl
@[simp] theorem hostAccessFault_lbaLo (h : BitVec 9) (s : State) : (hostAccessFault h s).lbaLo = s.lbaLo := rfl
@[simp] theorem hostAccessFault_lbaHi (h : BitVec 9) (s : State) : (hostAccessFault h s).lbaHi = s.lbaHi := rfl
@[simp] theorem hostAccessFault_count (h : BitVec 9) (s : State) : (hostAccessFault h s).count = s.count := rfl
@[simp] theorem hostAccessFault_destAddr (h : BitVec 9) (s : State) : (hostAccessFault h s).destAddr = s.destAddr := rfl
@[simp] theorem hostAccessFault_destLen (h : BitVec 9) (s : State) : (hostAccessFault h s).destLen = s.destLen := rfl
@[simp] theorem hostAccessFault_timeout (h : BitVec 9) (s : State) : (hostAccessFault h s).timeout = s.timeout := rfl
@[simp] theorem hostAccessFault_result (h : BitVec 9) (s : State) : (hostAccessFault h s).result = s.result := rfl
@[simp] theorem hostAccessFault_seqState (h : BitVec 9) (s : State) : (hostAccessFault h s).seqState = s.seqState := rfl
@[simp] theorem hostAccessFault_seqK (h : BitVec 9) (s : State) : (hostAccessFault h s).seqK = s.seqK := rfl
@[simp] theorem hostAccessFault_seqJ (h : BitVec 9) (s : State) : (hostAccessFault h s).seqJ = s.seqJ := rfl
@[simp] theorem hostAccessFault_seqS (h : BitVec 9) (s : State) : (hostAccessFault h s).seqS = s.seqS := rfl
@[simp] theorem hostAccessFault_seqI (h : BitVec 9) (s : State) : (hostAccessFault h s).seqI = s.seqI := rfl
@[simp] theorem hostAccessFault_seqN (h : BitVec 9) (s : State) : (hostAccessFault h s).seqN = s.seqN := rfl
@[simp] theorem hostAccessFault_lastStatus (h : BitVec 9) (s : State) : (hostAccessFault h s).lastStatus = s.lastStatus := rfl
@[simp] theorem hostAccessFault_mem (h : BitVec 9) (s : State) : (hostAccessFault h s).mem = s.mem := rfl
@[simp] theorem hostAccessFault_pending (h : BitVec 9) (s : State) : (hostAccessFault h s).pending = s.pending := rfl
@[simp] theorem hostAccessFault_byteAnswers (h : BitVec 9) (s : State) : (hostAccessFault h s).byteAnswers = s.byteAnswers := rfl
@[simp] theorem hostAccessFault_wordAnswers (h : BitVec 9) (s : State) : (hostAccessFault h s).wordAnswers = s.wordAnswers := rfl
@[simp] theorem hostAccessFault_draws (h : BitVec 9) (s : State) : (hostAccessFault h s).draws = s.draws := rfl
@[simp] theorem hostAccessFault_history (h : BitVec 9) (s : State) : (hostAccessFault h s).history = s.history ++ [.hostAccessFault h] := rfl
@[simp] theorem hostAccessFault_responses (h : BitVec 9) (s : State) : (hostAccessFault h s).responses = s.responses ++ [.slverr] := rfl

/-! ### The fields after `Start` -/

@[simp] theorem start_cfg (s : State) : (start s).cfg = s.cfg := rfl
@[simp] theorem start_ctrlMode (s : State) : (start s).ctrlMode = s.ctrlMode := rfl
@[simp] theorem start_ctrlDrv (s : State) : (start s).ctrlDrv = s.ctrlDrv := rfl
@[simp] theorem start_statusBusy (s : State) : (start s).statusBusy = true := rfl
@[simp] theorem start_statusDone (s : State) : (start s).statusDone = false := rfl
@[simp] theorem start_lbaLo (s : State) : (start s).lbaLo = s.lbaLo := rfl
@[simp] theorem start_lbaHi (s : State) : (start s).lbaHi = s.lbaHi := rfl
@[simp] theorem start_count (s : State) : (start s).count = s.count := rfl
@[simp] theorem start_destAddr (s : State) : (start s).destAddr = s.destAddr := rfl
@[simp] theorem start_destLen (s : State) : (start s).destLen = s.destLen := rfl
@[simp] theorem start_timeout (s : State) : (start s).timeout = s.timeout := rfl
@[simp] theorem start_result (s : State) : (start s).result = 0x0000000F := rfl
@[simp] theorem start_seqState (s : State) : (start s).seqState = .validate := rfl
@[simp] theorem start_seqK (s : State) : (start s).seqK = 0 := rfl
@[simp] theorem start_seqJ (s : State) : (start s).seqJ = 0 := rfl
@[simp] theorem start_seqS (s : State) : (start s).seqS = 0 := rfl
@[simp] theorem start_seqI (s : State) : (start s).seqI = 0 := rfl
@[simp] theorem start_seqN (s : State) : (start s).seqN = 0 := rfl
@[simp] theorem start_lastStatus (s : State) : (start s).lastStatus = 0x00 := rfl
@[simp] theorem start_mem (s : State) : (start s).mem = s.mem := rfl
@[simp] theorem start_pending (s : State) : (start s).pending = s.pending := rfl
@[simp] theorem start_byteAnswers (s : State) : (start s).byteAnswers = s.byteAnswers := rfl
@[simp] theorem start_wordAnswers (s : State) : (start s).wordAnswers = s.wordAnswers := rfl
@[simp] theorem start_draws (s : State) : (start s).draws = s.draws := rfl
@[simp] theorem start_history (s : State) : (start s).history = s.history := rfl
@[simp] theorem start_responses (s : State) : (start s).responses = s.responses := rfl

/-! ### The fields after `EnterWait` -/

@[simp] theorem enterWait_cfg (w : SeqState) (s : State) : (enterWait w s).cfg = s.cfg := rfl
@[simp] theorem enterWait_ctrlMode (w : SeqState) (s : State) : (enterWait w s).ctrlMode = s.ctrlMode := rfl
@[simp] theorem enterWait_ctrlDrv (w : SeqState) (s : State) : (enterWait w s).ctrlDrv = s.ctrlDrv := rfl
@[simp] theorem enterWait_statusBusy (w : SeqState) (s : State) : (enterWait w s).statusBusy = s.statusBusy := rfl
@[simp] theorem enterWait_statusDone (w : SeqState) (s : State) : (enterWait w s).statusDone = s.statusDone := rfl
@[simp] theorem enterWait_lbaLo (w : SeqState) (s : State) : (enterWait w s).lbaLo = s.lbaLo := rfl
@[simp] theorem enterWait_lbaHi (w : SeqState) (s : State) : (enterWait w s).lbaHi = s.lbaHi := rfl
@[simp] theorem enterWait_count (w : SeqState) (s : State) : (enterWait w s).count = s.count := rfl
@[simp] theorem enterWait_destAddr (w : SeqState) (s : State) : (enterWait w s).destAddr = s.destAddr := rfl
@[simp] theorem enterWait_destLen (w : SeqState) (s : State) : (enterWait w s).destLen = s.destLen := rfl
@[simp] theorem enterWait_timeout (w : SeqState) (s : State) : (enterWait w s).timeout = s.timeout := rfl
@[simp] theorem enterWait_result (w : SeqState) (s : State) : (enterWait w s).result = s.result := rfl
@[simp] theorem enterWait_seqState (w : SeqState) (s : State) : (enterWait w s).seqState = w := rfl
@[simp] theorem enterWait_seqK (w : SeqState) (s : State) : (enterWait w s).seqK = s.seqK := rfl
@[simp] theorem enterWait_seqJ (w : SeqState) (s : State) : (enterWait w s).seqJ = s.seqJ := rfl
@[simp] theorem enterWait_seqS (w : SeqState) (s : State) : (enterWait w s).seqS = s.seqS := rfl
@[simp] theorem enterWait_seqI (w : SeqState) (s : State) : (enterWait w s).seqI = s.seqI := rfl
@[simp] theorem enterWait_seqN (w : SeqState) (s : State) : (enterWait w s).seqN = 0 := rfl
@[simp] theorem enterWait_lastStatus (w : SeqState) (s : State) : (enterWait w s).lastStatus = s.lastStatus := rfl
@[simp] theorem enterWait_mem (w : SeqState) (s : State) : (enterWait w s).mem = s.mem := rfl
@[simp] theorem enterWait_pending (w : SeqState) (s : State) : (enterWait w s).pending = s.pending := rfl
@[simp] theorem enterWait_byteAnswers (w : SeqState) (s : State) : (enterWait w s).byteAnswers = s.byteAnswers := rfl
@[simp] theorem enterWait_wordAnswers (w : SeqState) (s : State) : (enterWait w s).wordAnswers = s.wordAnswers := rfl
@[simp] theorem enterWait_draws (w : SeqState) (s : State) : (enterWait w s).draws = s.draws := rfl
@[simp] theorem enterWait_history (w : SeqState) (s : State) : (enterWait w s).history = s.history := rfl
@[simp] theorem enterWait_responses (w : SeqState) (s : State) : (enterWait w s).responses = s.responses := rfl

/-! ### The fields after `Finish` -/

@[simp] theorem finish_cfg (cls : ResultClass) (detail : BitVec 4) (e st : Byte) (s : State) : (finish cls detail e st s).cfg = s.cfg := rfl
@[simp] theorem finish_ctrlMode (cls : ResultClass) (detail : BitVec 4) (e st : Byte) (s : State) : (finish cls detail e st s).ctrlMode = s.ctrlMode := rfl
@[simp] theorem finish_ctrlDrv (cls : ResultClass) (detail : BitVec 4) (e st : Byte) (s : State) : (finish cls detail e st s).ctrlDrv = s.ctrlDrv := rfl
@[simp] theorem finish_statusBusy (cls : ResultClass) (detail : BitVec 4) (e st : Byte) (s : State) : (finish cls detail e st s).statusBusy = false := rfl
@[simp] theorem finish_statusDone (cls : ResultClass) (detail : BitVec 4) (e st : Byte) (s : State) : (finish cls detail e st s).statusDone = true := rfl
@[simp] theorem finish_lbaLo (cls : ResultClass) (detail : BitVec 4) (e st : Byte) (s : State) : (finish cls detail e st s).lbaLo = s.lbaLo := rfl
@[simp] theorem finish_lbaHi (cls : ResultClass) (detail : BitVec 4) (e st : Byte) (s : State) : (finish cls detail e st s).lbaHi = s.lbaHi := rfl
@[simp] theorem finish_count (cls : ResultClass) (detail : BitVec 4) (e st : Byte) (s : State) : (finish cls detail e st s).count = s.count := rfl
@[simp] theorem finish_destAddr (cls : ResultClass) (detail : BitVec 4) (e st : Byte) (s : State) : (finish cls detail e st s).destAddr = s.destAddr := rfl
@[simp] theorem finish_destLen (cls : ResultClass) (detail : BitVec 4) (e st : Byte) (s : State) : (finish cls detail e st s).destLen = s.destLen := rfl
@[simp] theorem finish_timeout (cls : ResultClass) (detail : BitVec 4) (e st : Byte) (s : State) : (finish cls detail e st s).timeout = s.timeout := rfl
@[simp] theorem finish_result (cls : ResultClass) (detail : BitVec 4) (e st : Byte) (s : State) : (finish cls detail e st s).result = resultWord cls detail e st := rfl
@[simp] theorem finish_seqState (cls : ResultClass) (detail : BitVec 4) (e st : Byte) (s : State) : (finish cls detail e st s).seqState = .idle := rfl
@[simp] theorem finish_seqK (cls : ResultClass) (detail : BitVec 4) (e st : Byte) (s : State) : (finish cls detail e st s).seqK = s.seqK := rfl
@[simp] theorem finish_seqJ (cls : ResultClass) (detail : BitVec 4) (e st : Byte) (s : State) : (finish cls detail e st s).seqJ = s.seqJ := rfl
@[simp] theorem finish_seqS (cls : ResultClass) (detail : BitVec 4) (e st : Byte) (s : State) : (finish cls detail e st s).seqS = s.seqS := rfl
@[simp] theorem finish_seqI (cls : ResultClass) (detail : BitVec 4) (e st : Byte) (s : State) : (finish cls detail e st s).seqI = s.seqI := rfl
@[simp] theorem finish_seqN (cls : ResultClass) (detail : BitVec 4) (e st : Byte) (s : State) : (finish cls detail e st s).seqN = s.seqN := rfl
@[simp] theorem finish_lastStatus (cls : ResultClass) (detail : BitVec 4) (e st : Byte) (s : State) : (finish cls detail e st s).lastStatus = s.lastStatus := rfl
@[simp] theorem finish_mem (cls : ResultClass) (detail : BitVec 4) (e st : Byte) (s : State) : (finish cls detail e st s).mem = s.mem := rfl
@[simp] theorem finish_pending (cls : ResultClass) (detail : BitVec 4) (e st : Byte) (s : State) : (finish cls detail e st s).pending = s.pending := rfl
@[simp] theorem finish_byteAnswers (cls : ResultClass) (detail : BitVec 4) (e st : Byte) (s : State) : (finish cls detail e st s).byteAnswers = s.byteAnswers := rfl
@[simp] theorem finish_wordAnswers (cls : ResultClass) (detail : BitVec 4) (e st : Byte) (s : State) : (finish cls detail e st s).wordAnswers = s.wordAnswers := rfl
@[simp] theorem finish_draws (cls : ResultClass) (detail : BitVec 4) (e st : Byte) (s : State) : (finish cls detail e st s).draws = s.draws := rfl
@[simp] theorem finish_history (cls : ResultClass) (detail : BitVec 4) (e st : Byte) (s : State) : (finish cls detail e st s).history = s.history ++ [.finish cls detail e st] := rfl
@[simp] theorem finish_responses (cls : ResultClass) (detail : BitVec 4) (e st : Byte) (s : State) : (finish cls detail e st s).responses = s.responses := rfl

/-! ### The fields after reset -/

@[simp] theorem assertReset_cfg (s : State) : (assertReset s).cfg = s.cfg := rfl
@[simp] theorem assertReset_ctrlMode (s : State) : (assertReset s).ctrlMode = false := rfl
@[simp] theorem assertReset_ctrlDrv (s : State) : (assertReset s).ctrlDrv = false := rfl
@[simp] theorem assertReset_statusBusy (s : State) : (assertReset s).statusBusy = false := rfl
@[simp] theorem assertReset_statusDone (s : State) : (assertReset s).statusDone = false := rfl
@[simp] theorem assertReset_lbaLo (s : State) : (assertReset s).lbaLo = 0 := rfl
@[simp] theorem assertReset_lbaHi (s : State) : (assertReset s).lbaHi = 0 := rfl
@[simp] theorem assertReset_count (s : State) : (assertReset s).count = 0 := rfl
@[simp] theorem assertReset_destAddr (s : State) : (assertReset s).destAddr = 0 := rfl
@[simp] theorem assertReset_destLen (s : State) : (assertReset s).destLen = 0 := rfl
@[simp] theorem assertReset_timeout (s : State) : (assertReset s).timeout = s.cfg.timeoutReset := rfl
@[simp] theorem assertReset_result (s : State) : (assertReset s).result = 0x0000000F := rfl
@[simp] theorem assertReset_seqState (s : State) : (assertReset s).seqState = .idle := rfl
@[simp] theorem assertReset_seqK (s : State) : (assertReset s).seqK = 0 := rfl
@[simp] theorem assertReset_seqJ (s : State) : (assertReset s).seqJ = 0 := rfl
@[simp] theorem assertReset_seqS (s : State) : (assertReset s).seqS = 0 := rfl
@[simp] theorem assertReset_seqI (s : State) : (assertReset s).seqI = 0 := rfl
@[simp] theorem assertReset_seqN (s : State) : (assertReset s).seqN = 0 := rfl
@[simp] theorem assertReset_lastStatus (s : State) : (assertReset s).lastStatus = 0x00 := rfl
@[simp] theorem assertReset_mem (s : State) : (assertReset s).mem = s.mem := rfl
@[simp] theorem assertReset_pending (s : State) : (assertReset s).pending = s.pending := rfl
@[simp] theorem assertReset_byteAnswers (s : State) : (assertReset s).byteAnswers = s.byteAnswers := rfl
@[simp] theorem assertReset_wordAnswers (s : State) : (assertReset s).wordAnswers = s.wordAnswers := rfl
@[simp] theorem assertReset_draws (s : State) : (assertReset s).draws = s.draws := rfl
@[simp] theorem assertReset_history (s : State) : (assertReset s).history = s.history := rfl
@[simp] theorem assertReset_responses (s : State) : (assertReset s).responses = s.responses := rfl

end Sys2Proof.Machine
end

