-- ==== Sys2Proof/Laws/Ops.lean ====
section
/-! SUPPORT. One equation per way a shared operation can go, so that no proof unfolds it: the poll step, the settle read, the
taskfile write, the command, the stored word and VALIDATE; and the numbers behind RESULT, DETAIL and the counters. -/

namespace Sys2Proof.Machine

/-! ### Numbers -/

/-- RESULT as a number (R146). -/
theorem resultWord_toNat (c : ResultClass) (d : BitVec 4) (e st : Byte) :
    (resultWord c d e st).toNat = c.code.toNat + 16 * d.toNat + 256 * e.toNat + 65536 * st.toNat := by
  have h1 := c.code.isLt
  have h2 := d.isLt
  have h3 := e.isLt
  have h4 := st.isLt
  unfold resultWord
  simp only [BitVec.toNat_append, BitVec.toNat_ofNat]
  rw [← Nat.shiftLeft_add_eq_or_of_lt (by omega), ← Nat.shiftLeft_add_eq_or_of_lt (by omega),
    ← Nat.shiftLeft_add_eq_or_of_lt (by omega), ← Nat.shiftLeft_add_eq_or_of_lt (by omega)]
  simp only [Nat.shiftLeft_eq]
  omega

/-- The four bits of DETAIL are the four checks (R137). -/
theorem checkDetail_bits (n lba c da dl w : Nat) :
    (checkDetail n lba c da dl w).getLsbD 0 = (decide (lba ≥ 2 ^ n) || decide (lba + c > 2 ^ n)) ∧
    (checkDetail n lba c da dl w).getLsbD 1 = decide (c = 0) ∧
    (checkDetail n lba c da dl w).getLsbD 2 = decide (dl < 512 * c) ∧
    (checkDetail n lba c da dl w).getLsbD 3 = decide (da + 512 * c > 2 ^ w) := by
  unfold checkDetail
  simp only []
  generalize (decide (lba ≥ 2 ^ n) || decide (lba + c > 2 ^ n)) = a
  generalize decide (c = 0) = b
  generalize decide (dl < 512 * c) = x
  generalize decide (da + 512 * c > 2 ^ w) = y
  revert a b x y; decide

/-- A validated request has at least one sector. -/
theorem count_pos_of_valid {s : State} (h : validationDetail s = 0) : 0 < s.count.toNat := by
  have hb := (checkDetail_bits (lbaWidth s) (requestLba s).toNat s.count.toNat (destAddrReg s).toNat s.destLen.toNat
    s.cfg.memAddrWidth).2.1
  rw [show checkDetail _ _ _ _ _ _ = validationDetail s from rfl, h] at hb
  simp at hb
  omega

/-- A validated request's destination ends inside the address space (R176). -/
theorem dest_fits_of_valid {s : State} (h : validationDetail s = 0) :
    (destAddrReg s).toNat + 512 * s.count.toNat ≤ 2 ^ s.cfg.memAddrWidth := by
  have hb := (checkDetail_bits (lbaWidth s) (requestLba s).toNat s.count.toNat (destAddrReg s).toNat s.destLen.toNat
    s.cfg.memAddrWidth).2.2.2
  rw [show checkDetail _ _ _ _ _ _ = validationDetail s from rfl, h] at hb
  simp at hb
  omega

theorem byte_succ_toNat {b : Byte} (h : b.toNat < 255) : (b + 1).toNat = b.toNat + 1 := by
  simp [BitVec.toNat_add]; omega

theorem word_succ_toNat {b c : Word} (h : b.toNat < c.toNat) : (b + 1).toNat = b.toNat + 1 := by
  have := c.isLt
  simp [BitVec.toNat_add]; omega

theorem index_succ_toNat {b : BitVec 4} (h : b.toNat < 9) : (b + 1).toNat = b.toNat + 1 := by
  simp [BitVec.toNat_add]; omega

theorem lowBits_lt (n : Nat) (w : Word) : (lowBits n w).toNat < 2 ^ n := by
  unfold lowBits
  simp only [BitVec.toNat_ofNat]
  exact lt_of_le_of_lt (Nat.mod_le _ _) (Nat.mod_lt _ (by positivity))

theorem lowBits_toNat (n : Nat) (w : Word) : (lowBits n w).toNat = w.toNat % 2 ^ n := by
  unfold lowBits
  simp only [BitVec.toNat_ofNat]
  exact Nat.mod_eq_of_lt (lt_of_le_of_lt (Nat.mod_le _ _) w.isLt)

theorem legalTimeout_ne_zero (w : Word) : legalTimeout w ≠ 0#32 := by
  unfold legalTimeout; split
  · decide
  · assumption

theorem timeoutReset_ne_zero (c : Config) : c.timeoutReset ≠ 0#32 := by
  unfold Config.timeoutReset; split
  · decide
  · assumption

theorem word_pos {w : Word} (h : w ≠ 0#32) : 0 < w.toNat := by
  rcases Nat.eq_zero_or_pos w.toNat with h0 | h0
  · exact absurd (BitVec.eq_of_toNat_eq h0) h
  · exact h0

/-- The validation of a request depends on the request registers and the configuration only. -/
theorem validationDetail_congr {s t : State} (h1 : t.cfg = s.cfg) (h2 : t.ctrlMode = s.ctrlMode) (h3 : t.lbaLo = s.lbaLo)
    (h4 : t.lbaHi = s.lbaHi) (h5 : t.count = s.count) (h6 : t.destAddr = s.destAddr) (h7 : t.destLen = s.destLen) :
    validationDetail t = validationDetail s := by
  simp [validationDetail, lbaWidth, ctrlModeBit, requestLba, destAddrReg, *]

/-! ### The waits -/

theorem pollStep_toProgram {cond : Byte → PollAction} {s : State} (h : cond (nextByte s) = .toProgram) (ph : BitVec 4) :
    pollStep cond ph s = { readStatus s with seqN := s.seqN + 1, seqK := 0, seqState := .program } := by
  simp only [pollStep, h]

theorem pollStep_toReadErr {cond : Byte → PollAction} {s : State} (h : cond (nextByte s) = .toReadErr) (ph : BitVec 4) :
    pollStep cond ph s = { readStatus s with seqN := s.seqN + 1, seqState := .readErr } := by
  simp only [pollStep, h]

theorem pollStep_toTransfer {cond : Byte → PollAction} {s : State} (h : cond (nextByte s) = .toTransfer) (ph : BitVec 4) :
    pollStep cond ph s = { readStatus s with seqN := s.seqN + 1, seqI := 0, seqState := .transfer } := by
  simp only [pollStep, h]

theorem pollStep_stay {cond : Byte → PollAction} {s : State} (h : cond (nextByte s) = .stay)
    (hn : s.seqN.toNat + 1 < s.timeout.toNat) (ph : BitVec 4) :
    pollStep cond ph s = { readStatus s with seqN := s.seqN + 1 } := by
  simp only [pollStep, h, if_neg (show ¬ s.timeout.toNat ≤ s.seqN.toNat + 1 by omega)]

theorem pollStep_timeout {cond : Byte → PollAction} {s : State} (h : cond (nextByte s) = .stay)
    (hn : s.timeout.toNat ≤ s.seqN.toNat + 1) (ph : BitVec 4) :
    pollStep cond ph s = finish .deviceTimeout ph 0x00 (nextByte s) { readStatus s with seqN := s.seqN + 1 } := by
  simp only [pollStep, h, if_pos hn]

/-- The not-busy wait goes on or to PROGRAM. -/
theorem nbsyCondition_cases (v : Byte) :
    (bsy v = true ∧ nbsyCondition v = .stay) ∨ (bsy v = false ∧ nbsyCondition v = .toProgram) := by
  unfold nbsyCondition; cases bsy v <;> simp

/-- The data wait goes on, to READ_ERR or to TRANSFER. -/
theorem drqCondition_cases (v : Byte) :
    ((bsy v = true ∨ (err v = false ∧ drq v = false)) ∧ drqCondition v = .stay) ∨
    (bsy v = false ∧ err v = true ∧ drqCondition v = .toReadErr) ∨
    (bsy v = false ∧ err v = false ∧ drq v = true ∧ drqCondition v = .toTransfer) := by
  unfold drqCondition; cases bsy v <;> cases err v <;> cases drq v <;> simp

theorem settleStep_last {s : State} (h : s.seqJ + 1 = s.cfg.settleReads) :
    settleStep s = { readStatus s with seqJ := s.seqJ + 1, seqN := 0, seqState := .waitDrq } := by
  simp only [settleStep, if_pos h, enterWait]

theorem settleStep_more {s : State} (h : s.seqJ + 1 ≠ s.cfg.settleReads) :
    settleStep s = { readStatus s with seqJ := s.seqJ + 1 } := by
  simp only [settleStep, if_neg h]

/-! ### PROGRAM, ISSUE, VALIDATE -/

theorem programWrite_last {s : State} (h : s.seqK.toNat + 1 = (taskfile s).length) (o : BitVec 3) (v : Byte) :
    programWrite o v s = { devOut8 o v s with seqK := s.seqK + 1, seqState := .issue } := by
  simp only [programWrite, if_pos h]

theorem programWrite_more {s : State} (h : s.seqK.toNat + 1 ≠ (taskfile s).length) (o : BitVec 3) (v : Byte) :
    programWrite o v s = { devOut8 o v s with seqK := s.seqK + 1 } := by
  simp only [programWrite, if_neg h]

theorem issueCommand_settle {s : State} (h : s.cfg.settleReads ≠ 0) (v : Byte) :
    issueCommand v s = { devOut8 7 v s with seqJ := 0, seqState := .settle } := by
  simp only [issueCommand, if_neg h]

theorem issueCommand_wait {s : State} (h : s.cfg.settleReads = 0) (v : Byte) :
    issueCommand v s = { devOut8 7 v s with seqJ := 0, seqN := 0, seqState := .waitDrq } := by
  simp only [issueCommand, if_pos h, enterWait]

theorem validateStep_pass {s : State} (h : validationDetail s = 0) :
    validateStep s = { s with seqN := 0, seqState := .waitNbsy } := by
  simp only [validateStep, if_pos h, enterWait]

theorem validateStep_fail {s : State} (h : validationDetail s ≠ 0) :
    validateStep s = finish .invalidParameters (validationDetail s) 0x00 0x00 s := by
  simp only [validateStep, if_neg h]

/-! ### TRANSFER -/

/-- The state with the next data word read and its two bytes stored, before the position advances. -/
def storedWord (s : State) : State :=
  memWriteByte (transferAddr s + 1) ((nextWord s).extractLsb' 8 8)
    (memWriteByte (transferAddr s) ((nextWord s).extractLsb' 0 8) (devIn16 s))

/-- TRANSFER is the stored word, then the advance of the position. -/
theorem transferWord_eq (s : State) : transferWord s = advanceWord (storedWord s) := rfl

theorem transferWord_more {s : State} (h : s.seqI.toNat < 255) :
    transferWord s = { storedWord s with seqI := s.seqI + 1 } := by
  rw [transferWord_eq, advanceWord, if_pos (show (storedWord s).seqI.toNat < 255 from h)]
  rfl

theorem transferWord_sector {s : State} (h : ¬ s.seqI.toNat < 255) (hs : s.seqS.toNat + 1 ≠ s.count.toNat) :
    transferWord s = { storedWord s with seqI := 0, seqS := s.seqS + 1, seqN := 0, seqState := .waitDrq } := by
  rw [transferWord_eq, advanceWord, if_neg (show ¬ (storedWord s).seqI.toNat < 255 from h)]
  exact if_neg (show ¬ (storedWord s).seqS.toNat + 1 = (storedWord s).count.toNat from hs)

theorem transferWord_last {s : State} (h : ¬ s.seqI.toNat < 255) (hs : s.seqS.toNat + 1 = s.count.toNat) :
    transferWord s =
      finish .success 0 0 s.lastStatus { storedWord s with seqI := 0, seqS := s.seqS + 1 } := by
  rw [transferWord_eq, advanceWord, if_neg (show ¬ (storedWord s).seqI.toNat < 255 from h)]
  exact if_pos (show (storedWord s).seqS.toNat + 1 = (storedWord s).count.toNat from hs)

end Sys2Proof.Machine
end

