-- ==== Sys2Proof/Laws/PerInstr.lean ====
section
/-! SUPPORT. Statements made for every instruction, one lemma per constructor of Instr. -/

namespace Sys2Proof.Laws.EncodedLength

/-- R85: the formats are of fixed length: six bytes for a host transaction (H and WDATA), one for every other form. -/
def Statement (i : Instr) : Prop := (encode i).length = if i.isHost then 6 else 1

theorem rdCtrl : Statement (Instr.rdCtrl) := rfl

theorem wrCtrl (wdata : Word) : Statement (Instr.wrCtrl wdata) := rfl

theorem rdStatus : Statement (Instr.rdStatus) := rfl

theorem wrStatus (wdata : Word) : Statement (Instr.wrStatus wdata) := rfl

theorem rdLbaLo : Statement (Instr.rdLbaLo) := rfl

theorem wrLbaLo (wdata : Word) : Statement (Instr.wrLbaLo wdata) := rfl

theorem rdLbaHi : Statement (Instr.rdLbaHi) := rfl

theorem wrLbaHi (wdata : Word) : Statement (Instr.wrLbaHi wdata) := rfl

theorem rdCount : Statement (Instr.rdCount) := rfl

theorem wrCount (wdata : Word) : Statement (Instr.wrCount wdata) := rfl

theorem rdDestAddr : Statement (Instr.rdDestAddr) := rfl

theorem wrDestAddr (wdata : Word) : Statement (Instr.wrDestAddr wdata) := rfl

theorem rdDestLen : Statement (Instr.rdDestLen) := rfl

theorem wrDestLen (wdata : Word) : Statement (Instr.wrDestLen wdata) := rfl

theorem rdTimeout : Statement (Instr.rdTimeout) := rfl

theorem wrTimeout (wdata : Word) : Statement (Instr.wrTimeout wdata) := rfl

theorem rdResult : Statement (Instr.rdResult) := rfl

theorem wrResult (wdata : Word) : Statement (Instr.wrResult wdata) := rfl

theorem rdRetcode : Statement (Instr.rdRetcode) := rfl

theorem wrRetcode (wdata : Word) : Statement (Instr.wrRetcode wdata) := rfl

theorem rdProgress : Statement (Instr.rdProgress) := rfl

theorem wrProgress (wdata : Word) : Statement (Instr.wrProgress wdata) := rfl

theorem rdPollCount : Statement (Instr.rdPollCount) := rfl

theorem wrPollCount (wdata : Word) : Statement (Instr.wrPollCount wdata) := rfl

theorem rsvdRd (n : BitVec 2) : Statement (Instr.rsvdRd n) := rfl

theorem rsvdWr (n : BitVec 2) (wdata : Word) : Statement (Instr.rsvdWr n wdata) := rfl

theorem badAccess (h : BitVec 9) : Statement (Instr.badAccess h) := rfl

theorem outDevhead : Statement (Instr.outDevhead) := rfl

theorem outSeccount : Statement (Instr.outSeccount) := rfl

theorem outLbalo : Statement (Instr.outLbalo) := rfl

theorem outLbamid : Statement (Instr.outLbamid) := rfl

theorem outLbahi : Statement (Instr.outLbahi) := rfl

theorem outCmd : Statement (Instr.outCmd) := rfl

theorem inStatus : Statement (Instr.inStatus) := rfl

theorem inError : Statement (Instr.inError) := rfl

theorem inData : Statement (Instr.inData) := rfl

theorem cmdReadSectors : Statement (Instr.cmdReadSectors) := rfl

theorem cmdReadSectorsExt : Statement (Instr.cmdReadSectorsExt) := rfl

theorem devheadLba28 (d : BitVec 1) (l : BitVec 4) : Statement (Instr.devheadLba28 d l) := rfl

theorem devheadLba48 (d : BitVec 1) : Statement (Instr.devheadLba48 d) := rfl

end Sys2Proof.Laws.EncodedLength
end

