-- ==== Sys2Proof/Laws/Step.lean ====
section
/-! SUPPORT. What a step can do, said once: the sequencer's turn case by case (`SequencerStep`), the host transactions'
shared shape (`exec_host`), and the inversion of `step` (`step_cases`). Later proofs cite these instead of unfolding the
step. -/

namespace Sys2Proof.Machine

/-- One turn of the sequencer, one constructor per rule of spec/41_sequencer.md, spec/42_status_poller.md and
spec/43_data_port_mux.md. -/
inductive SequencerStep (s : State) : State → Prop where
  | idle (h : s.seqState = .idle) : SequencerStep s s
  | validate (h : s.seqState = .validate) : SequencerStep s (validateStep s)
  | waitNbsy (h : s.seqState = .waitNbsy) : SequencerStep s (pollStep nbsyCondition 0x1 s)
  | program (h : s.seqState = .program) (o : BitVec 3) (v : Byte) (e : (taskfile s)[s.seqK.toNat]? = some (o, v)) :
      SequencerStep s (programWrite o v s)
  | issue (h : s.seqState = .issue) : SequencerStep s (issueCommand (commandByte s) s)
  | settle (h : s.seqState = .settle) : SequencerStep s (settleStep s)
  | waitDrq (h : s.seqState = .waitDrq) : SequencerStep s (pollStep drqCondition 0x2 s)
  | readErr (h : s.seqState = .readErr) :
      SequencerStep s (finish .deviceError 0b0000 (nextByte s) s.lastStatus (devIn8 1 s))
  | transfer (h : s.seqState = .transfer) (x : addressExists s.cfg (transferAddr s + 1) = true)
      (a : (memAdmit s.cfg (transferAddr s) 1 && memAdmit s.cfg (transferAddr s + 1) 1) = true) :
      SequencerStep s (transferWord s)
  | stuck (h : s.seqState = .transfer)
      (a : (memAdmit s.cfg (transferAddr s) 1 && memAdmit s.cfg (transferAddr s + 1) 1) = false) : SequencerStep s s

/-- The transaction that writes port `o` of the taskfile. -/
def taskfileInstr (o : BitVec 3) : Instr :=
  if o = 6 then .outDevhead else if o = 2 then .outSeccount else if o = 3 then .outLbalo
  else if o = 4 then .outLbamid else .outLbahi

/-- The ports of the taskfile lists (R141, R142). -/
theorem taskfile_port {s : State} {o : BitVec 3} {v : Byte} (e : (taskfile s)[s.seqK.toNat]? = some (o, v)) :
    o = 6 ∨ o = 2 ∨ o = 3 ∨ o = 4 ∨ o = 5 := by
  have hm := List.mem_of_getElem? e
  unfold taskfile list48 list28 at hm
  split at hm <;> simp at hm <;> tauto

theorem decodeBus_taskfile {o : BitVec 3} (h : o = 6 ∨ o = 2 ∨ o = 3 ∨ o = 4 ∨ o = 5) :
    decodeBus (writeB o) = .instr (taskfileInstr o) := by
  rcases h with rfl | rfl | rfl | rfl | rfl <;> rfl

theorem exec_taskfileInstr {s : State} {o : BitVec 3} (h : o = 6 ∨ o = 2 ∨ o = 3 ∨ o = 4 ∨ o = 5) :
    exec (taskfileInstr o) s = taskfileWrite o s := by
  rcases h with rfl | rfl | rfl | rfl | rfl <;> rfl

theorem taskfileWrite_eq {s : State} {o : BitVec 3} {v : Byte} (h : s.seqState = .program)
    (e : (taskfile s)[s.seqK.toNat]? = some (o, v)) : taskfileWrite o s = .next (programWrite o v s) := by
  simp [taskfileWrite, h, e]

@[simp] theorem taskfile_length (s : State) : (taskfile s).length = taskfileLength s := by
  simp only [taskfile, taskfileLength]; split <;> rfl

/-- Running what the sequencer's turn fetches. -/
def runFetched : Fetched → Host.Outcome State Fault Refusal
  | .run i t => exec i t
  | .move o => o

theorem step_eq {s : State} (h : s.cfg.ok = true) : step s = runFetched (fetch s) := by
  simp only [step, h, if_true]; rfl

theorem cfg_ok_of_step {s t : State} (h : step s = .next t) : s.cfg.ok = true := by
  by_contra hc
  simp [step, hc] at h

/-- The sequencer's turn answers a next state exactly by one of the rules. -/
theorem sequencerTurn_cases {s t : State} (h : runFetched (sequencerTurn s) = .next t) : SequencerStep s t := by
  cases hp : s.seqState <;> simp only [sequencerTurn, hp, runFetched] at h
  case idle => cases h; exact .idle hp
  case validate => cases h; exact .validate hp
  all_goals simp only [busDescriptor, hp] at h
  case program =>
    cases he : (taskfile s)[s.seqK.toNat]? with
    | none => simp [he] at h
    | some e =>
      obtain ⟨o, v⟩ := e
      have ho := taskfile_port he
      simp only [he, Option.map_some, decodeBus_taskfile ho, exec_taskfileInstr ho, taskfileWrite_eq hp he] at h
      cases h
      exact .program hp o v he
  case waitNbsy => simp [decodeBus, exec, execInStatus, hp] at h; cases h; exact .waitNbsy hp
  case issue => simp [decodeBus, exec, execOutCmd, hp] at h; cases h; exact .issue hp
  case settle => simp [decodeBus, exec, execInStatus, hp] at h; cases h; exact .settle hp
  case waitDrq => simp [decodeBus, exec, execInStatus, hp] at h; cases h; exact .waitDrq hp
  case readErr => simp [decodeBus, exec, execInError, hp] at h; cases h; exact .readErr hp
  case transfer =>
    have h' : execInData s = .next t := h
    simp only [execInData, hp, if_true] at h'
    split at h'
    · split at h'
      · rename_i hx ha; cases h'; exact .transfer hp hx ha
      · rename_i ha; cases h'; exact .stuck hp (by simpa using ha)
    · cases h'

/-- One turn of the sequencer with its guards and its next state written out: every way a step can go. -/
inductive SequencerCase (s : State) : State → Prop where
  | idle (h : s.seqState = .idle) : SequencerCase s s
  | validatePass (h : s.seqState = .validate) (d : validationDetail s = 0) :
      SequencerCase s { s with seqN := 0, seqState := .waitNbsy }
  | validateFail (h : s.seqState = .validate) (d : validationDetail s ≠ 0) :
      SequencerCase s (finish .invalidParameters (validationDetail s) 0x00 0x00 s)
  | nbsyReady (h : s.seqState = .waitNbsy) (b : bsy (nextByte s) = false) :
      SequencerCase s { readStatus s with seqN := s.seqN + 1, seqK := 0, seqState := .program }
  | nbsyStay (h : s.seqState = .waitNbsy) (b : bsy (nextByte s) = true) (n : s.seqN.toNat + 1 < s.timeout.toNat) :
      SequencerCase s { readStatus s with seqN := s.seqN + 1 }
  | nbsyTimeout (h : s.seqState = .waitNbsy) (b : bsy (nextByte s) = true) (n : s.timeout.toNat ≤ s.seqN.toNat + 1) :
      SequencerCase s (finish .deviceTimeout 0x1 0x00 (nextByte s) { readStatus s with seqN := s.seqN + 1 })
  | programMore (h : s.seqState = .program) (o : BitVec 3) (v : Byte) (e : (taskfile s)[s.seqK.toNat]? = some (o, v))
      (k : s.seqK.toNat + 1 ≠ taskfileLength s) : SequencerCase s { devOut8 o v s with seqK := s.seqK + 1 }
  | programLast (h : s.seqState = .program) (o : BitVec 3) (v : Byte) (e : (taskfile s)[s.seqK.toNat]? = some (o, v))
      (k : s.seqK.toNat + 1 = taskfileLength s) :
      SequencerCase s { devOut8 o v s with seqK := s.seqK + 1, seqState := .issue }
  | issueSettle (h : s.seqState = .issue) (r : s.cfg.settleReads ≠ 0) :
      SequencerCase s { devOut8 7 (commandByte s) s with seqJ := 0, seqState := .settle }
  | issueWait (h : s.seqState = .issue) (r : s.cfg.settleReads = 0) :
      SequencerCase s { devOut8 7 (commandByte s) s with seqJ := 0, seqN := 0, seqState := .waitDrq }
  | settleMore (h : s.seqState = .settle) (j : s.seqJ + 1 ≠ s.cfg.settleReads) :
      SequencerCase s { readStatus s with seqJ := s.seqJ + 1 }
  | settleLast (h : s.seqState = .settle) (j : s.seqJ + 1 = s.cfg.settleReads) :
      SequencerCase s { readStatus s with seqJ := s.seqJ + 1, seqN := 0, seqState := .waitDrq }
  | drqError (h : s.seqState = .waitDrq) (b : bsy (nextByte s) = false) (e : err (nextByte s) = true) :
      SequencerCase s { readStatus s with seqN := s.seqN + 1, seqState := .readErr }
  | drqReady (h : s.seqState = .waitDrq) (b : bsy (nextByte s) = false) (e : err (nextByte s) = false)
      (q : drq (nextByte s) = true) :
      SequencerCase s { readStatus s with seqN := s.seqN + 1, seqI := 0, seqState := .transfer }
  | drqStay (h : s.seqState = .waitDrq)
      (b : bsy (nextByte s) = true ∨ (err (nextByte s) = false ∧ drq (nextByte s) = false))
      (n : s.seqN.toNat + 1 < s.timeout.toNat) : SequencerCase s { readStatus s with seqN := s.seqN + 1 }
  | drqTimeout (h : s.seqState = .waitDrq)
      (b : bsy (nextByte s) = true ∨ (err (nextByte s) = false ∧ drq (nextByte s) = false))
      (n : s.timeout.toNat ≤ s.seqN.toNat + 1) :
      SequencerCase s (finish .deviceTimeout 0x2 0x00 (nextByte s) { readStatus s with seqN := s.seqN + 1 })
  | readErr (h : s.seqState = .readErr) :
      SequencerCase s (finish .deviceError 0b0000 (nextByte s) s.lastStatus (devIn8 1 s))
  | transferMore (h : s.seqState = .transfer) (x : addressExists s.cfg (transferAddr s + 1) = true)
      (a : (memAdmit s.cfg (transferAddr s) 1 && memAdmit s.cfg (transferAddr s + 1) 1) = true)
      (i : s.seqI.toNat < 255) : SequencerCase s { storedWord s with seqI := s.seqI + 1 }
  | transferSector (h : s.seqState = .transfer) (x : addressExists s.cfg (transferAddr s + 1) = true)
      (a : (memAdmit s.cfg (transferAddr s) 1 && memAdmit s.cfg (transferAddr s + 1) 1) = true)
      (i : ¬ s.seqI.toNat < 255) (c : s.seqS.toNat + 1 ≠ s.count.toNat) :
      SequencerCase s { storedWord s with seqI := 0, seqS := s.seqS + 1, seqN := 0, seqState := .waitDrq }
  | transferLast (h : s.seqState = .transfer) (x : addressExists s.cfg (transferAddr s + 1) = true)
      (a : (memAdmit s.cfg (transferAddr s) 1 && memAdmit s.cfg (transferAddr s + 1) 1) = true)
      (i : ¬ s.seqI.toNat < 255) (c : s.seqS.toNat + 1 = s.count.toNat) :
      SequencerCase s (finish .success 0 0 s.lastStatus { storedWord s with seqI := 0, seqS := s.seqS + 1 })
  | stuck (h : s.seqState = .transfer)
      (a : (memAdmit s.cfg (transferAddr s) 1 && memAdmit s.cfg (transferAddr s + 1) 1) = false) : SequencerCase s s

/-- The step of each state, split into its ways. -/
theorem SequencerStep.split_case {s t : State} (h : SequencerStep s t) : SequencerCase s t := by
  cases h with
  | idle h => exact .idle h
  | validate h =>
    by_cases d : validationDetail s = 0
    · rw [validateStep_pass d]; exact .validatePass h d
    · rw [validateStep_fail d]; exact .validateFail h d
  | waitNbsy h =>
    rcases nbsyCondition_cases (nextByte s) with ⟨b, hc⟩ | ⟨b, hc⟩
    · rcases Nat.lt_or_ge (s.seqN.toNat + 1) s.timeout.toNat with n | n
      · rw [pollStep_stay hc n]; exact .nbsyStay h b n
      · rw [pollStep_timeout hc n]; exact .nbsyTimeout h b n
    · rw [pollStep_toProgram hc]; exact .nbsyReady h b
  | program h o v e =>
    by_cases k : s.seqK.toNat + 1 = taskfileLength s
    · rw [programWrite_last (by rw [taskfile_length]; exact k)]; exact .programLast h o v e k
    · rw [programWrite_more (by rw [taskfile_length]; exact k)]; exact .programMore h o v e k
  | issue h =>
    by_cases r : s.cfg.settleReads = 0
    · rw [issueCommand_wait r]; exact .issueWait h r
    · rw [issueCommand_settle r]; exact .issueSettle h r
  | settle h =>
    by_cases j : s.seqJ + 1 = s.cfg.settleReads
    · rw [settleStep_last j]; exact .settleLast h j
    · rw [settleStep_more j]; exact .settleMore h j
  | waitDrq h =>
    rcases drqCondition_cases (nextByte s) with ⟨b, hc⟩ | ⟨b, e, hc⟩ | ⟨b, e, q, hc⟩
    · rcases Nat.lt_or_ge (s.seqN.toNat + 1) s.timeout.toNat with n | n
      · rw [pollStep_stay hc n]; exact .drqStay h b n
      · rw [pollStep_timeout hc n]; exact .drqTimeout h b n
    · rw [pollStep_toReadErr hc]; exact .drqError h b e
    · rw [pollStep_toTransfer hc]; exact .drqReady h b e q
  | readErr h => exact .readErr h
  | transfer h x a =>
    by_cases i : s.seqI.toNat < 255
    · rw [transferWord_more i]; exact .transferMore h x a i
    · by_cases c : s.seqS.toNat + 1 = s.count.toNat
      · rw [transferWord_last i c]; exact .transferLast h x a i c
      · rw [transferWord_sector i c]; exact .transferSector h x a i c
  | stuck h a => exact .stuck h a

/-- The sequencer steps whenever its position exists and the present word's addresses exist. -/
theorem sequencerTurn_next {s : State} (h : positionOk s)
    (hx : s.seqState = .transfer → addressExists s.cfg (transferAddr s + 1) = true) :
    ∃ t, runFetched (sequencerTurn s) = .next t ∧ SequencerCase s t := by
  suffices hs : ∃ t, runFetched (sequencerTurn s) = .next t by
    obtain ⟨t, ht⟩ := hs
    exact ⟨t, ht, (sequencerTurn_cases ht).split_case⟩
  cases hp : s.seqState <;> simp only [sequencerTurn, hp, runFetched]
  case idle => exact ⟨_, rfl⟩
  case validate => exact ⟨_, rfl⟩
  all_goals simp only [busDescriptor, hp]
  case program =>
    simp only [positionOk, hp] at h
    obtain ⟨⟨o, v⟩, he⟩ : ∃ e, (taskfile s)[s.seqK.toNat]? = some e := ⟨_, List.getElem?_eq_getElem h⟩
    have ho := taskfile_port he
    simp only [he, Option.map_some, decodeBus_taskfile ho, exec_taskfileInstr ho, taskfileWrite_eq hp he]
    exact ⟨_, rfl⟩
  case transfer =>
    suffices hs : ∃ t, execInData s = .next t from hs
    simp only [execInData, hp, if_true, hx hp]
    split <;> exact ⟨_, rfl⟩
  all_goals simp [decodeBus, exec, execInStatus, execOutCmd, execInError, hp]

/-- The queue's head and what it does: the inversion of a step. -/
theorem step_cases {s t : State} (h : step s = .next t) :
    (s.pending = [] ∧ SequencerStep s t) ∨
    (∃ rest, s.pending = .sequencer :: rest ∧ SequencerStep { s with pending := rest } t) ∨
    (∃ hd w rest, s.pending = .host hd w :: rest ∧ exec (decodeHost hd w) { s with pending := rest } = .next t) ∨
    (∃ rest, s.pending = .reset :: rest ∧ t = assertReset { s with pending := rest }) ∨
    (∃ a n rest, s.pending = .memRead a n :: rest ∧ accessExists s.cfg a n = true ∧
      t = respond (.memBytes (Memory.readBytes s.mem a n)) (memReadBytes a n { s with pending := rest })) ∨
    (∃ a v rest, s.pending = .memWrite a v :: rest ∧ addressExists s.cfg a = true ∧
      t = { s with pending := rest, mem := Memory.write s.mem a v }) ∨
    (∃ hd m v rest, s.pending = .poll hd m v :: rest ∧ t = pollRead hd m v { s with pending := rest }) ∨
    (∃ hd m v rest, s.pending = .pollTest hd m v :: rest ∧ t = pollBranch hd m v { s with pending := rest }) := by
  rw [step_eq (cfg_ok_of_step h)] at h
  unfold fetch at h
  split at h <;> rename_i hp
  · exact .inl ⟨hp, sequencerTurn_cases h⟩
  · exact .inr (.inl ⟨_, hp, sequencerTurn_cases h⟩)
  · exact .inr (.inr (.inl ⟨_, _, _, hp, h⟩))
  · cases h; exact .inr (.inr (.inr (.inl ⟨_, hp, rfl⟩)))
  · simp only [runFetched, hostMemRead] at h
    split at h
    · rename_i ha; cases h; exact .inr (.inr (.inr (.inr (.inl ⟨_, _, _, hp, ha, rfl⟩))))
    · cases h
  · simp only [runFetched, hostMemWrite] at h
    split at h
    · rename_i ha; cases h; exact .inr (.inr (.inr (.inr (.inr (.inl ⟨_, _, _, hp, ha, rfl⟩)))))
    · cases h
  · cases h; exact .inr (.inr (.inr (.inr (.inr (.inr (.inl ⟨_, _, _, _, hp, rfl⟩))))))
  · cases h; exact .inr (.inr (.inr (.inr (.inr (.inr (.inr ⟨_, _, _, _, hp, rfl⟩))))))

/-- Data words of two stretches of history. -/
@[simp] theorem dataWords_append (xs ys : List Event) : dataWords (xs ++ ys) = dataWords xs ++ dataWords ys := by
  induction xs with
  | nil => rfl
  | cons e xs ih => cases e <;> simp [dataWords, ih]

/-- Memory writes of two stretches of history. -/
@[simp] theorem memWrites_append (xs ys : List Event) : memWrites (xs ++ ys) = memWrites xs ++ memWrites ys := by
  induction xs with
  | nil => rfl
  | cons e xs ih => cases e <;> simp [memWrites, ih]

/-- A run begins with its first step. -/
theorem run_succ (M : Host.Core) {s t : M.State} (h : M.step s = .next t) (k : Nat) : M.run (k + 1) s = M.run k t := by
  simp only [Host.Core.run, h]

/-- The decoder of host descriptors answers host transactions only. -/
theorem decodeHost_isHost (h : BitVec 9) (w : Word) : (decodeHost h w).isHost = true := by
  unfold decodeHost
  split
  · rfl
  · split <;> rfl

/-- Every host transaction is one of these: a read, a SLVERR, an ignored write, or a write to a writable register, which is
ignored while BUSY = 1. -/
theorem exec_host {i : Instr} (h : i.isHost = true) (s : State) :
    (∃ v, exec i s = .next (csrRead v s)) ∨ (∃ hd, exec i s = .next (hostAccessFault hd s)) ∨
    exec i s = .next (csrWriteIgnored s) ∨
    (∃ store, exec i s = .next (csrWrite store s) ∧
      ((∃ w, store = storeCtrl w) ∨ (∃ w, store = fun t => { t with lbaLo := w }) ∨
        (∃ w, store = fun t => { t with lbaHi := w }) ∨ (∃ w, store = fun t => { t with count := w }) ∨
        (∃ w, store = fun t => { t with destAddr := lowBits t.cfg.memAddrWidth w }) ∨
        (∃ w, store = fun t => { t with destLen := w }) ∨
        (∃ w, store = fun t => { t with timeout := legalTimeout w }))) := by
  cases i <;> first | (exact absurd h Bool.false_ne_true) | skip
  case rdCtrl => exact .inl ⟨_, rfl⟩
  case rdStatus => exact .inl ⟨_, rfl⟩
  case rdLbaLo => exact .inl ⟨_, rfl⟩
  case rdLbaHi => exact .inl ⟨_, rfl⟩
  case rdCount => exact .inl ⟨_, rfl⟩
  case rdDestAddr => exact .inl ⟨_, rfl⟩
  case rdDestLen => exact .inl ⟨_, rfl⟩
  case rdTimeout => exact .inl ⟨_, rfl⟩
  case rdResult => exact .inl ⟨_, rfl⟩
  case rdRetcode => exact .inl ⟨_, rfl⟩
  case rdProgress => exact .inl ⟨_, rfl⟩
  case rdPollCount => exact .inl ⟨_, rfl⟩
  case rsvdRd => exact .inl ⟨_, rfl⟩
  case badAccess => exact .inr (.inl ⟨_, rfl⟩)
  case wrCtrl => exact .inr (.inr (.inr ⟨_, rfl, .inl ⟨_, rfl⟩⟩))
  case wrLbaLo => exact .inr (.inr (.inr ⟨_, rfl, .inr (.inl ⟨_, rfl⟩)⟩))
  case wrLbaHi => exact .inr (.inr (.inr ⟨_, rfl, .inr (.inr (.inl ⟨_, rfl⟩))⟩))
  case wrCount => exact .inr (.inr (.inr ⟨_, rfl, .inr (.inr (.inr (.inl ⟨_, rfl⟩)))⟩))
  case wrDestAddr => exact .inr (.inr (.inr ⟨_, rfl, .inr (.inr (.inr (.inr (.inl ⟨_, rfl⟩))))⟩))
  case wrDestLen => exact .inr (.inr (.inr ⟨_, rfl, .inr (.inr (.inr (.inr (.inr (.inl ⟨_, rfl⟩)))))⟩))
  case wrTimeout => exact .inr (.inr (.inr ⟨_, rfl, .inr (.inr (.inr (.inr (.inr (.inr ⟨_, rfl⟩)))))⟩))
  all_goals exact .inr (.inr (.inl rfl))

end Sys2Proof.Machine
end

