-- ==== Sys2Proof/Machine/RefDevice.lean ====
section
/-! DEFINITION. The named device premise `RefDevice(M, B, E)` of spec/43_data_port_mux.md R184: a simulated device, no rule of
the PSR. Its state is a function of the history of device-bus transactions, and its answers can be queued in a State. No
step uses it. Where R184 leaves a corner, see assumption log 16 (DESIGN CHOICE). -/

namespace Sys2Proof.Machine

/-- `M`, `B` and `E` of R184: the medium (sector, byte index), the busy reads before each sector, the failing sector indexes
with their error bytes. -/
structure RefDevice where
  medium : Nat → Nat → Byte
  busyReads : Nat
  errors : List (Nat × Byte)

/-- What the simulated device has latched and how far it is: the two-deep taskfile (R142), the command in progress (none
before a command and after the last sector), its sector index, the status reads since the command or since the previous
sector's last data read, and the words of the sector read. -/
structure RefState where
  taskfile : List (BitVec 3 × Byte)
  command : Option (Nat × Nat)
  sector : Nat
  polls : Nat
  words : Nat
  deriving DecidableEq, Repr

/-- The device before any transaction. -/
def RefState.init : RefState := { taskfile := [], command := none, sector := 0, polls := 0, words := 0 }

/-- The `n`-th most recent value written to a taskfile port (0 is the latest), 0 if there is none. -/
def RefState.latched (r : RefState) (off : BitVec 3) (n : Nat) : Nat :=
  match ((r.taskfile.filter fun e => e.1 == off).map Prod.snd)[n]? with
  | some v => v.toNat
  | none => 0

/-- LBA and count of a command byte, read back from the taskfile by the layouts of R141 and R142 (assumption log 16, DESIGN
CHOICE: R184 does not say how the device learns them). -/
def RefState.request (r : RefState) (cmd : Byte) : Option (Nat × Nat) :=
  let low := r.latched 3 0 + 2 ^ 8 * r.latched 4 0 + 2 ^ 16 * r.latched 5 0
  if cmd = 0x20 then some (low + 2 ^ 24 * (r.latched 6 0 % 16), r.latched 2 0)
  else if cmd = 0x24 then
    some (low + 2 ^ 24 * r.latched 3 1 + 2 ^ 32 * r.latched 4 1 + 2 ^ 40 * r.latched 5 1,
      r.latched 2 0 + 2 ^ 8 * r.latched 2 1)
  else none

/-- The status byte of R184. -/
def RefState.status (d : RefDevice) (r : RefState) : Byte :=
  match r.command with
  | none => 0x50
  | some _ =>
    if r.polls < d.busyReads then 0xD0
    else match d.errors.lookup r.sector with
      | some _ => 0x51
      | none => 0x58

/-- The command whose present sector has had its `B` busy reads: only then does R184 answer error and data reads. -/
def RefState.served (d : RefDevice) (r : RefState) : Option (Nat × Nat) :=
  if r.polls < d.busyReads then none else r.command

/-- The error byte of R184: `e` where `E` names the present sector. R184 gives other error reads no answer; the model queues
none (assumption log 16, DESIGN CHOICE). -/
def RefState.errorByte (d : RefDevice) (r : RefState) : Option Byte := (r.served d).bind fun _ => d.errors.lookup r.sector

/-- The data word of R184: `{M(L+s)[2i+1], M(L+s)[2i]}` where `E` does not name the present sector. R184 gives no answer to a
data read in a sector `E` names, in the busy reads or without a command; the model queues none (assumption log 16, DESIGN
CHOICE). -/
def RefState.dataWord (d : RefDevice) (r : RefState) : Option Half :=
  match r.served d, d.errors.lookup r.sector with
  | some c, none => some (d.medium (c.1 + r.sector) (2 * r.words + 1) ++ d.medium (c.1 + r.sector) (2 * r.words))
  | _, _ => none

/-- One device-bus transaction as the device sees it; `base` is `DEV_BASE`. A command for 0 sectors has no sector to answer
for. That a new command replaces one in progress, and that a data read R184 gives no answer to still counts as a word of its
sector, is the model's choice (assumption log 16, DESIGN CHOICE). -/
def RefState.see (base : Half) (r : RefState) : Event → RefState
  | .devOut8 port v =>
    if port = base + 7 then { r with command := (r.request v).filter fun c => c.2 != 0, sector := 0, polls := 0, words := 0 }
    else { r with taskfile := ((port - base).setWidth 3, v) :: r.taskfile }
  | .devIn8 port _ => if port = base + 7 then { r with polls := r.polls + 1 } else r
  | .devIn16 _ _ =>
    match r.command with
    | none => r
    | some (_, c) =>
      if r.words + 1 < 256 then { r with words := r.words + 1 }
      else if r.sector + 1 < c then { r with sector := r.sector + 1, polls := 0, words := 0 }
      else { r with command := none, sector := 0, polls := 0, words := 0 }
  | .memWrite _ _ => r
  | .memRead _ _ _ => r
  | .finish _ _ _ _ => r
  | .hostAccessFault _ => r

/-- The device after a run's history. -/
def refState (s : State) : RefState := s.history.foldl (RefState.see s.cfg.devBase) RefState.init

/-- `s` with the answers of the simulated device to its next read queued; where the premise gives none, the read stays a free
draw. -/
def refAnswer (d : RefDevice) (s : State) : State :=
  let r := refState s
  { s with
    byteAnswers := if s.seqState = .readErr then (r.errorByte d).toList else [r.status d]
    wordAnswers := (r.dataWord d).toList }

end Sys2Proof.Machine
end

