-- ==== Sys2Proof/Tests/Slice0.lean ====
section
/-! SUPPORT. The model's own tests: the WellFormed smoke test, one word of every row written out from spec/30_encoding.md,
single steps with the results spec/95_test_vectors.md gives, and for every statement with hypotheses a witness that meets
them. -/

namespace Sys2Proof.Tests

open Sys2Proof Sys2Proof.Machine

/-! ### Helpers -/

/-- The next state of an outcome, if it is one. -/
def next? : Host.Outcome State Fault Refusal → Option State
  | .next s => some s
  | .fault _ => none
  | .refused _ => none

/-- The last read data a host agent got. -/
def lastRead (o : Host.Outcome State Fault Refusal) : Option Response := (next? o).bind fun s => s.responses.getLast?

/-- The request of the two-sector example: LBA 33, two sectors to 0x7E00, TIMEOUT 3. -/
def request : State := { State.reset with lbaLo := 33, count := 2, destAddr := 0x7E00, destLen := 1024, timeout := 3 }

/-- That request running, at position `p`. -/
def running (p : SeqState) : State := { request with seqState := p, statusBusy := true }

/-- A device that answers the next 8-bit read with `v`. -/
def answering (v : Byte) (s : State) : State := { s with byteAnswers := [v] }

/-- The request in the 48-bit mode. -/
def mode48 (s : State) : State := { s with ctrlMode := true }

/-- A host turn at the head of the queue. -/
def hostTurn (h : BitVec 9) (w : Word) (s : State) : State := { s with pending := [.host h w] }

/-! ### WellFormed: the one check refuses an ill-formed term -/

/-- 0x100 is RD_CTRL's descriptor (R76), so no BAD_ACCESS carries it (R77). -/
theorem test_wf_refuses_bad_access_of_aligned_word : Instr.wf (.badAccess 0x100) = false := by decide

theorem test_wf_refuses_bad_access_of_reserved_offset : Instr.wf (.badAccess 0x17C) = false := by decide

theorem test_wf_accepts_bad_access : Instr.wf (.badAccess 0x1C0) = true := by decide

/-! ### Decoding, from the tables of R76, R77, R79, R81, R82 and section 2.1 of spec/95_test_vectors.md -/

/-- The 12 reads: H = 0x100 | offset, low byte first. -/
theorem test_decode_reads :
    [0x00, 0x04, 0x08, 0x0C, 0x10, 0x14].map (fun o => decode [o, 0x01, 0, 0, 0, 0]) =
      [.instr .rdCtrl, .instr .rdStatus, .instr .rdLbaLo, .instr .rdLbaHi, .instr .rdCount, .instr .rdDestAddr] ∧
    [0x18, 0x1C, 0x20, 0x24, 0x28, 0x2C].map (fun o => decode [o, 0x01, 0, 0, 0, 0]) =
      [.instr .rdDestLen, .instr .rdTimeout, .instr .rdResult, .instr .rdRetcode, .instr .rdProgress,
        .instr .rdPollCount] := by decide

/-- The 12 writes: H = 0x140 | offset, WDATA = 0x12345678 low byte first. -/
theorem test_decode_writes :
    [0x40, 0x44, 0x48, 0x4C, 0x50, 0x54].map (fun o => decode [o, 0x01, 0x78, 0x56, 0x34, 0x12]) =
      [.instr (.wrCtrl 0x12345678), .instr (.wrStatus 0x12345678), .instr (.wrLbaLo 0x12345678),
        .instr (.wrLbaHi 0x12345678), .instr (.wrCount 0x12345678), .instr (.wrDestAddr 0x12345678)] ∧
    [0x58, 0x5C, 0x60, 0x64, 0x68, 0x6C].map (fun o => decode [o, 0x01, 0x78, 0x56, 0x34, 0x12]) =
      [.instr (.wrDestLen 0x12345678), .instr (.wrTimeout 0x12345678), .instr (.wrResult 0x12345678),
        .instr (.wrRetcode 0x12345678), .instr (.wrProgress 0x12345678), .instr (.wrPollCount 0x12345678)] := by decide

theorem test_decode_reserved_offsets :
    decode [0x30, 0x01, 0, 0, 0, 0] = .instr (.rsvdRd 0) ∧ decode [0x3C, 0x01, 0, 0, 0, 0] = .instr (.rsvdRd 3) ∧
    decode [0x74, 0x01, 1, 0, 0, 0] = .instr (.rsvdWr 1 1) ∧ decode [0x7C, 0x01, 1, 0, 0, 0] = .instr (.rsvdWr 3 1) := by
  decide

theorem test_decode_bad_access :
    decode [0x01, 0x01, 0, 0, 0, 0] = .instr (.badAccess 0x101) ∧ decode [0x42, 0x01, 1, 0, 0, 0] = .instr (.badAccess 0x142) ∧
    decode [0x84, 0x00, 0, 0, 0, 0] = .instr (.badAccess 0x084) ∧ decode [0x00, 0x00, 0, 0, 0, 0] = .instr (.badAccess 0x000) ∧
    decode [0xC0, 0x01, 0, 0, 0, 0] = .instr (.badAccess 0x1C0) ∧ decode [0xBF, 0x01, 0, 0, 0, 0] = .instr (.badAccess 0x1BF) := by
  decide

/-- The nine descriptors of R79: DIR, W16, OFF. -/
theorem test_decode_bus :
    [0b10110, 0b10010, 0b10011, 0b10100, 0b10101, 0b10111, 0b00111, 0b00001, 0b01000].map (fun b => decode [b]) =
      [.instr .outDevhead, .instr .outSeccount, .instr .outLbalo, .instr .outLbamid, .instr .outLbahi, .instr .outCmd,
        .instr .inStatus, .instr .inError, .instr .inData] := by decide

/-- R80: the features port, a 16-bit write, an 8-bit read of the data port. -/
theorem test_decode_unissued :
    decode [0x11] = .reject (.unissuedDescriptor 0x11) ∧ decode [0x18] = .reject (.unissuedDescriptor 0x18) ∧
    decode [0x00] = .reject (.unissuedDescriptor 0x00) := by decide

/-- R81 and R82 with the bytes of vectors T2, T4 and T5. -/
theorem test_decode_device_bytes :
    decode [0x20] = .instr .cmdReadSectors ∧ decode [0x24] = .instr .cmdReadSectorsExt ∧
    decode [0xFA] = .instr (.devheadLba28 1 0xA) ∧ decode [0xEF] = .instr (.devheadLba28 0 0xF) ∧
    decode [0x40] = .instr (.devheadLba48 0) ∧ decode [0x50] = .instr (.devheadLba48 1) ∧
    decode [0x41] = .reject (.unwrittenDeviceByte 0x41) := by decide

theorem test_decode_rejects_other_shapes :
    decode [] = .reject (.wrongLength 0) ∧ decode [0x00, 0x03, 0, 0, 0, 0] = .reject .descriptorTooWide := by decide

/-- The table's own numbering: H in bits 8:0, the operand word from bit 16. -/
theorem test_decode_table_words :
    decodeTableWord 16 0x148 = some (.wrLbaLo 0) ∧ decodeTableWord 48 0x000000210148 = some (.wrLbaLo 0x21) ∧
    decodeTableWord 8 0x16 = some .outDevhead ∧ decodeTableWord 8 0x11 = none := by decide

/-- R86, R88: the host code of program P1, instructions 1 to 8. -/
theorem test_read_sectors_expansion :
    readSectors 33 1 0x7E00 512 0 0 =
      [.host 0x148 0x21, .host 0x14C 0, .host 0x150 1, .host 0x154 0x7E00, .host 0x158 0x200, .host 0x140 0x1,
        .poll 0x104 0x2 0x2, .host 0x124 0] := by decide

/-! ### Host transactions, section 2.2 of spec/95_test_vectors.md -/

/-- H1, H2, H3. -/
theorem test_reads_after_reset :
    [Instr.rdCtrl, .rdStatus, .rdLbaLo, .rdLbaHi, .rdCount, .rdDestAddr, .rdDestLen, .rdProgress, .rdPollCount].map
      (fun i => lastRead (exec i State.reset)) = List.replicate 9 (some (.okayRead 0)) ∧
    [Instr.rdTimeout, .rdResult, .rdRetcode].map (fun i => lastRead (exec i State.reset)) =
      [some (.okayRead 0x000F4240), some (.okayRead 0x0000000F), some (.okayRead 0x80000000)] := by decide

/-- H4, H6, and H5 without the 48-bit mode. -/
theorem test_wr_ctrl_fields :
    (next? (exec (.wrCtrl 0x6) State.reset)).map ctrlWord = some 0x6 ∧
    (next? (exec (.wrCtrl 0xFFFFFFF8) State.reset)).map ctrlWord = some 0x0 ∧
    (next? (exec (.wrCtrl 0x6) (State.resetWith { Config.default with hasLba48 := false }))).map ctrlWord = some 0x4 := by
  decide

/-- H17: STATUS reads 0x00000011 right after a START; H22: DONE and RESULT are cleared. -/
theorem test_start :
    (next? (exec (.wrCtrl 0x1) { request with statusDone := true, result := 0x21 })).map
      (fun s => (statusWord s, s.result)) = some (0x00000011, 0x0000000F) := by decide

/-- H7, H8, H10. -/
theorem test_request_writes :
    (next? (exec (.wrLbaHi 0xABCD1234) State.reset)).map State.lbaHi = some 0x1234 ∧
    (next? (exec (.wrCount 0x1FF) State.reset)).map State.count = some 0xFF ∧
    (next? (exec (.wrLbaLo 0x0FFFFFFF) State.reset)).map State.lbaLo = some 0x0FFFFFFF ∧
    (next? (exec (.wrDestLen 1024) State.reset)).map State.destLen = some 1024 ∧
    (next? (exec (.wrTimeout 0xFFFFFFFF) State.reset)).map State.timeout = some 0xFFFFFFFF := by decide

/-- H9: TIMEOUT written with 0 stores 1; H11: DEST_ADDR keeps 16 bits. -/
theorem test_warl_writes :
    (next? (exec (.wrTimeout 0) State.reset)).map State.timeout = some 1 ∧
    (next? (exec (.wrDestAddr 0x12345) (State.resetWith { Config.default with memAddrWidth := 16 }))).map State.destAddr =
      some 0x2345 := by decide

/-- H12, H13: OKAY and nothing else changes; a write of 1 to a reserved offset is no START. -/
theorem test_ignored_writes :
    [Instr.wrStatus 0xFFFFFFFF, .wrResult 0, .wrRetcode 1, .wrProgress 5, .wrPollCount 0, .rsvdWr 0 1].map
      (fun i => next? (exec i State.reset)) = List.replicate 6 (some { State.reset with responses := [.okay] }) := by decide

theorem test_reserved_read : lastRead (exec (.rsvdRd 2) (running .validate)) = some (.okayRead 0) := by decide

/-- H18, H19: writes while BUSY = 1 are ignored with OKAY. -/
theorem test_writes_while_busy_ignored :
    [Instr.wrLbaLo 5, .wrCtrl 0x7, .wrCount 9].map (fun i => next? (exec i (running .waitNbsy))) =
      List.replicate 3 (some { running .waitNbsy with responses := [.okay] }) := by decide

/-- H20: a narrow write while BUSY = 1 is SLVERR, not OKAY. -/
theorem test_bad_access_slverr :
    lastRead (step (hostTurn 0x0C0 1 (running .waitNbsy))) = some .slverr ∧
    (next? (step (hostTurn 0x0C0 1 (running .waitNbsy)))).map State.seqState = some .waitNbsy := by decide

/-- R101's example: last status 0x58, finished. -/
theorem test_rd_status_after_success :
    lastRead (exec .rdStatus { request with statusDone := true, lastStatus := 0x58 }) = some (.okayRead 0x00005802) := by
  decide

/-- Section 2.7: RETCODE by class. -/
theorem test_retcode_table :
    [0x00580000, 0x00000091, 0x00D00022, 0x00510403, 0x00510003].map
      (fun r => lastRead (exec .rdRetcode { request with result := r })) =
      [some (.okayRead 0), some (.okayRead 0xFFFFFFFF), some (.okayRead 0xFFFFFFFE), some (.okayRead 0x00000104),
        some (.okayRead 0x00000100)] := by decide

/-- X5: PROGRESS 0x00008100 with WORD_INDEX 129; P-4: POLL_COUNT. -/
theorem test_counters_read :
    lastRead (exec .rdProgress { running .transfer with seqI := 129 }) = some (.okayRead 0x00008100) ∧
    lastRead (exec .rdPollCount { request with seqN := 3 }) = some (.okayRead 3) := by decide

/-! ### VALIDATE, section 2.3 -/

/-- The RESULT of the VALIDATE step, 0xF where it passes. -/
def validated (mode : Bool) (lba : BitVec 48) (c : Byte) (addr len : Word) : Word :=
  (validateStep { running .validate with
    ctrlMode := mode, lbaLo := lba.extractLsb' 0 32, lbaHi := lba.extractLsb' 32 16, count := c, destAddr := addr
    destLen := len, result := 0xF }).result

/-- V1, V3, V6, V7, V11, V18, V20 pass. -/
theorem test_validate_passes :
    [validated false 33 1 0x7E00 512, validated false 0x0FFFFFFF 1 0x7E00 512, validated true 0x10000000 1 0x7E00 512,
      validated true 0xFFFFFFFFFFFF 1 0x7E00 512, validated false 33 1 0xFFFFFE00 512, validated false 0 255 0 130560,
      validated false 0x0FFFFF01 255 0 130560] = List.replicate 7 0x0000000F := by decide

/-- V2, V4, V8, V9, V12, V13, V14 fail. -/
theorem test_validate_fails :
    [validated false 33 0 0x7E00 512, validated false 0x0FFFFFFF 2 0x7E00 1024, validated true 0xFFFFFFFFFFFF 2 0x7E00 1024,
      validated false 33 2 0x7E00 1023, validated false 33 1 0xFFFFFE01 512, validated false 0x10000000 255 0xFFFF0000 0,
      validated false 0x100000000 0 0 0] = [0x21, 0x11, 0x11, 0x41, 0x81, 0xD1, 0x31] := by decide

/-! ### Taskfile and command bytes, section 2.4 -/

/-- T2: the whole list of the 28-bit mode. -/
theorem test_taskfile_28 :
    taskfile { request with ctrlDrv := true, lbaLo := 0x0ABCDEF1, count := 8 } =
      [(6, 0xFA), (2, 0x08), (3, 0xF1), (4, 0xDE), (5, 0xBC)] := by decide

/-- T4: the whole list of the 48-bit mode. -/
theorem test_taskfile_48 :
    taskfile (mode48 { request with lbaHi := 0x1234, lbaLo := 0x56789ABC, count := 3 }) =
      [(6, 0x40), (2, 0x00), (3, 0x56), (4, 0x34), (5, 0x12), (2, 0x03), (3, 0xBC), (4, 0x9A), (5, 0x78)] := by decide

/-- Where a step of PROGRAM leaves `seq.k`, the state and the history. -/
def programmed (o : Host.Outcome State Fault Refusal) : Option (BitVec 4 × SeqState × List Event) :=
  (next? o).map fun s => (s.seqK, s.seqState, s.history)

/-- T1, k = 0 to 4, with the ports of DEV_BASE 0x1F0. -/
theorem test_program_steps :
    programmed (exec .outDevhead { running .program with seqK := 0 }) = some (1, .program, [.devOut8 0x1F6 0xE0]) ∧
    programmed (exec .outSeccount { running .program with seqK := 1 }) = some (2, .program, [.devOut8 0x1F2 0x02]) ∧
    programmed (exec .outLbalo { running .program with seqK := 2 }) = some (3, .program, [.devOut8 0x1F3 0x21]) ∧
    programmed (exec .outLbamid { running .program with seqK := 3 }) = some (4, .program, [.devOut8 0x1F4 0x00]) ∧
    programmed (exec .outLbahi { running .program with seqK := 4 }) = some (5, .issue, [.devOut8 0x1F5 0x00]) := by decide

/-- The transaction of another entry of the list is not issued. -/
theorem test_program_other_port_not_issued :
    next? (exec .outLbahi { running .program with seqK := 0 }) = none ∧
    next? (exec .outLbahi { mode48 (running .program) with seqK := 4 }) =
      some { mode48 (running .program) with seqK := 5, history := [.devOut8 0x1F5 0x00] } := by decide

/-- T2 and T5: the drive/head byte. -/
theorem test_devhead_bytes :
    programmed (exec (.devheadLba28 1 0xA) { running .program with ctrlDrv := true, lbaLo := 0x0ABCDEF1 }) =
      some (1, .program, [.devOut8 0x1F6 0xFA]) ∧
    programmed (exec (.devheadLba48 1) { mode48 (running .program) with ctrlDrv := true }) =
      some (1, .program, [.devOut8 0x1F6 0x50]) := by decide

/-- R143: the command byte by the mode, then SETTLE; with SETTLE_READS = 0 the data wait. -/
theorem test_issue :
    programmed (exec .outCmd (running .issue)) = some (0, .settle, [.devOut8 0x1F7 0x20]) ∧
    programmed (exec .cmdReadSectors (running .issue)) = some (0, .settle, [.devOut8 0x1F7 0x20]) ∧
    programmed (exec .cmdReadSectorsExt (mode48 (running .issue))) = some (0, .settle, [.devOut8 0x1F7 0x24]) ∧
    programmed (exec .outCmd { mode48 (running .issue) with cfg := { Config.default with settleReads := 0 } }) =
      some (0, .waitDrq, [.devOut8 0x1F7 0x24]) := by decide

/-! ### Status poller, section 2.5 -/

/-- State, POLL_COUNT and RESULT after a status read. -/
def polled (o : Host.Outcome State Fault Refusal) : Option (SeqState × Word × Word) :=
  (next? o).map fun s => (s.seqState, s.seqN, s.result)

/-- The not-busy table: 0x80 and 0xFF continue, 0x01 and 0x7F end the wait. -/
theorem test_wait_nbsy_bytes :
    [0x80, 0xFF, 0x01, 0x7F].map (fun v => (polled (exec .inStatus (answering v (running .waitNbsy)))).map Prod.fst) =
      [some .waitNbsy, some .waitNbsy, some .program, some .program] := by decide

/-- P-1 and P-2: with TIMEOUT = 1 the condition wins over the count on the one read. -/
theorem test_wait_nbsy_timeout :
    polled (exec .inStatus (answering 0x80 { running .waitNbsy with timeout := 1 })) = some (.idle, 1, 0x00800012) ∧
    polled (exec .inStatus (answering 0x50 { running .waitNbsy with timeout := 1 })) = some (.program, 1, 0x0000000F) := by
  decide

/-- The data-wait table: 0x58, 0x59, 0x50, 0x20, 0xD8, 0x81. -/
theorem test_wait_drq_bytes :
    [0x58, 0x59, 0x50, 0x20, 0xD8, 0x81].map (fun v => (polled (exec .inStatus (answering v (running .waitDrq)))).map Prod.fst) =
      [some .transfer, some .readErr, some .waitDrq, some .waitDrq, some .waitDrq, some .waitDrq] := by decide

/-- P-5, P-6: the last read of the budget of 2. -/
theorem test_wait_drq_timeout :
    polled (exec .inStatus (answering 0x50 { running .waitDrq with timeout := 2, seqN := 1 })) = some (.idle, 2, 0x00500022) ∧
    polled (exec .inStatus (answering 0x58 { running .waitDrq with timeout := 2, seqN := 1 })) =
      some (.transfer, 2, 0x0000000F) := by decide

/-- R162: an ERR in a settle read is not seen; the fourth one begins the data wait at count 0. -/
theorem test_settle :
    (next? (exec .inStatus (answering 0x51 { running .settle with seqJ := 2, seqN := 7 }))).map
      (fun s => (s.seqState, s.seqJ, s.seqN, s.lastStatus)) = some (.settle, 3, 7, 0x51) ∧
    (next? (exec .inStatus (answering 0x51 { running .settle with seqJ := 3, seqN := 7 }))).map
      (fun s => (s.seqState, s.seqJ, s.seqN, s.lastStatus)) = some (.waitDrq, 4, 0, 0x51) := by decide

/-- The error-read vectors. -/
theorem test_read_err :
    [(0x51, 0x04), (0x51, 0x00), (0x01, 0xFF), (0x59, 0x10)].map
      (fun p : Byte × Byte => (next? (exec .inError (answering p.2 { running .readErr with lastStatus := p.1 }))).map
        (fun s => (s.result, s.history.length))) =
      [some (0x00510403, 2), some (0x00510003, 2), some (0x0001FF03, 2), some (0x00591003, 2)] := by decide

/-! ### Data transfer, section 2.6 -/

/-- One word of the device stored. -/
def stored (addr : Word) (sector index : Byte) (c : Byte) (w : Half) : Option State :=
  next? (exec .inData { running .transfer with
    destAddr := addr, seqS := sector, seqI := index, count := c, wordAnswers := [w], lastStatus := 0x58 })

/-- X1 and X2: low byte first, odd addresses legal. -/
theorem test_in_data_bytes :
    (stored 0x7E00 0 0 1 0x1234).map (fun s => (s.mem, s.seqI, s.seqState)) =
      some ([(0x7E00, 0x34), (0x7E01, 0x12)], 1, .transfer) ∧
    (stored 0x2001 0 0 1 0xBEEF).map (fun s => (s.mem, s.seqI, s.seqState)) =
      some ([(0x2001, 0xEF), (0x2002, 0xBE)], 1, .transfer) := by decide

/-- X3 with COUNT 2 and 3, X4. -/
theorem test_in_data_sector_end :
    (stored 0x1000 1 255 2 0xA55A).map (fun s => (s.mem, s.seqState, s.result)) =
      some ([(0x13FE, 0x5A), (0x13FF, 0xA5)], .idle, 0x00580000) ∧
    (stored 0x1000 1 255 3 0xA55A).map (fun s => (s.seqS, s.seqN, s.seqState)) = some (2, 0, .waitDrq) ∧
    (stored 0x7E00 0 255 1 0xFFFE).map progressWord = some 0x00000001 := by decide

/-! ### Reset, memory, the simulated device -/

/-- The running transfer with TIMEOUT 7, reset next. -/
def resetting : State := { running .transfer with timeout := 7, pending := [.reset], mem := [(0x7E00, 1)] }

/-- Z3: TIMEOUT written to 7, then reset; memory stays. -/
theorem test_reset_restores_timeout :
    (next? (step resetting)).map (fun s => (s.timeout, s.seqState, s.statusBusy)) = some (0x000F4240, .idle, false) ∧
    (next? (step resetting)).map (fun s => (s.result, s.mem)) = some (0x0000000F, [(0x7E00, 1)]) := by decide

/-- A write keeps the order of addresses and replaces a listed byte. -/
theorem test_memory_write :
    Memory.write [(1, 0x11), (5, 0x55)] 3 0x33 = [(1, 0x11), (3, 0x33), (5, 0x55)] ∧
    Memory.write [(1, 0x11), (5, 0x55)] 5 0x66 = [(1, 0x11), (5, 0x66)] := by decide

/-- R12: `MemRead(0x7E01, 3)` answers the bytes at rising addresses, none where nothing was written, and is one event. -/
theorem test_mem_read :
    (next? (step { request with pending := [.memRead 0x7E01 3], mem := [(0x7E00, 0xAA), (0x7E01, 0x11), (0x7E03, 0x33)] })).map
      (fun s => (s.responses, s.history, s.mem.length)) =
      some ([.memBytes [some 0x11, none, some 0x33]], [.memRead 0x7E01 3 [some 0x11, none, some 0x33]], 3) := by decide

/-- R184 with program P1's premise: 0x50 before the command, 0xD0 first after it, then 0x58. -/
theorem test_ref_device_status :
    let d : RefDevice := { medium := fun _ k => BitVec.ofNat 8 k, busyReads := 1, errors := [] }
    let issued : List Event := [.devOut8 0x1F6 0xE0, .devOut8 0x1F2 1, .devOut8 0x1F3 0x21, .devOut8 0x1F4 0, .devOut8 0x1F5 0,
      .devOut8 0x1F7 0x20]
    let after := fun es : List Event => es.foldl (RefState.see 0x1F0) RefState.init
    (after []).status d = 0x50 ∧ (after issued).command = some (33, 1) ∧ (after issued).status d = 0xD0 ∧
      (after (issued ++ [.devIn8 0x1F7 0xD0])).status d = 0x58 ∧
      (after (issued ++ [.devIn8 0x1F7 0xD0, .devIn16 0x1F0 0x0100])).dataWord d = some 0x0302 := by decide

/-- R184 with an error in sector 0: the error read is answered after the busy reads only, and no data read of that sector is. -/
theorem test_ref_device_error :
    let d : RefDevice := { medium := fun _ _ => 0, busyReads := 1, errors := [(0, 0x40)] }
    let busy : RefState := { RefState.init with command := some (33, 2) }
    let ready : RefState := { busy with polls := 1 }
    (busy.errorByte d, busy.dataWord d) = (none, none) ∧ ready.status d = 0x51 ∧
      (ready.errorByte d, ready.dataWord d) = (some 0x40, none) ∧
      ({ ready with sector := 1 }.errorByte d, { ready with sector := 1 }.dataWord d) = (none, some 0) := by decide

/-! ### Witnesses: each meets every hypothesis of the statement it names, clause by clause -/

theorem witness_DecodeEncodeRoundTrip :
    Instr.wf (.rsvdWr 3 0xFFFFFFFF) = true ∧ Instr.wf (.badAccess 0x1FF) = true ∧ Instr.wf (.devheadLba28 1 0xF) = true ∧
    Instr.wf .rdCtrl = true := by decide

theorem witness_DecodedBytesReencode :
    decode [0x40, 0x01, 0xFF, 0xFF, 0xFF, 0xFF] = .instr (.wrCtrl 0xFFFFFFFF) ∧ decode [0x08] = .instr .inData ∧
    Instr.isWrite (.wrCtrl 0xFFFFFFFF) = true ∧ Instr.isHost .inData = false := by decide

theorem witness_BusDescriptors :
    decodeBus 0x08 = .instr .inData ∧ decodeBus 0x16 = .instr .outDevhead := by decide

theorem witness_DeviceBytes :
    decodeCommand 0x24 = .instr .cmdReadSectorsExt ∧ decodeDevHead 0xFF = .instr (.devheadLba28 1 0xF) := by decide

/-- Every value of `seq.state` and RESULT.CLASS that the read statements name. -/
theorem witness_RdStatus :
    [SeqState.idle, .validate, .waitNbsy, .program, .issue, .settle, .waitDrq, .readErr, .transfer].map
      (fun p => (running p).seqState) =
      [.idle, .validate, .waitNbsy, .program, .issue, .settle, .waitDrq, .readErr, .transfer] := by decide

theorem witness_RdRetcode :
    [(0x00580000 : Word), 0xD1, 0x00FF0012, 0x0001FF03, 0x4, 0xF].map (fun r => r.toNat % 16) = [0, 1, 2, 3, 4, 15] := by decide

theorem witness_ReadsHaveNoSideEffect : Instr.isRead .rdStatus = true ∧ Instr.isRead (.rsvdRd 3) = true := by decide

/-- For the statements about host writes: a busy state, an idle one, and write data of both kinds. -/
theorem witness_HostWrites :
    (running .validate).statusBusy = true ∧ request.statusBusy = false ∧ (0x6 : Word).getLsbD 0 = false ∧
    (0x7 : Word).getLsbD 0 = true ∧ (0x0 : Word) = 0 ∧ (0xFFFFFFFF : Word) ≠ 0 := by decide

/-- The boundary descriptors of R77: each wrong SIZE and each misalignment. -/
theorem witness_BadAccess :
    ∀ h ∈ [(0x000 : BitVec 9), 0x080, 0x180, 0x1FF, 0x101, 0x102, 0x103, 0x17F], h.toNat / 2 ^ 7 ≠ 0b10 ∨ h.toNat % 4 ≠ 0 := by
  decide

theorem witness_HostTransactionsWhileBusy :
    Instr.isHost (.wrCtrl 0x7) = true ∧ Instr.isWrite (.wrCtrl 0x7) = true ∧ Instr.isHost (.badAccess 0x0C0) = true ∧
    (running .transfer).statusBusy = true := by decide

theorem witness_ReadReturnsLastAcceptedWrite :
    request.statusBusy = false ∧
    ∀ i ∈ [Instr.wrLbaLo 1, .wrLbaHi 1, .wrCount 1, .wrDestAddr 1, .wrDestLen 1, .wrTimeout 0, .wrCtrl 0x7],
      ∃ t, exec i request = .next t := by
  refine ⟨by decide, ?_⟩
  simp only [List.forall_mem_cons]
  exact ⟨⟨_, rfl⟩, ⟨_, rfl⟩, ⟨_, rfl⟩, ⟨_, rfl⟩, ⟨_, rfl⟩, ⟨_, rfl⟩, ⟨_, rfl⟩, by simp⟩

theorem witness_StartForgetsRetainedState : request.statusBusy = false ∧ (0x1 : Word).getLsbD 0 = true := by decide

/-- A request that passes, and one that fails every check it can (V13). -/
theorem witness_Validate :
    (running .validate).cfg.ok = true ∧ (running .validate).pending = [] ∧ (running .validate).seqState = .validate ∧
    validationDetail (running .validate) = 0 ∧
    validationDetail { running .validate with lbaLo := 0x10000000, count := 255, destAddr := 0xFFFF0000, destLen := 0 } =
      0b1101 := by decide

theorem witness_Taskfile28Writes :
    (running .program).seqState = .program ∧ (running .program).ctrlMode = false ∧
    (List.range 5).map (fun k => { running .program with seqK := BitVec.ofNat 4 k }.seqK) = [0, 1, 2, 3, 4] := by decide

theorem witness_Taskfile48Writes :
    (mode48 (running .program)).seqState = .program ∧ (mode48 (running .program)).cfg.hasLba48 = true ∧
    (mode48 (running .program)).ctrlMode = true ∧
    (List.range 9).map (fun k => { mode48 (running .program) with seqK := BitVec.ofNat 4 k }.seqK) =
      [0, 1, 2, 3, 4, 5, 6, 7, 8] := by decide

theorem witness_DriveHeadBytes :
    (running .program).seqK = 0 ∧ (0 : BitVec 1).toNat = (running .program).ctrlDrv.toNat ∧
    (1 : BitVec 1).toNat = { running .program with ctrlDrv := true }.ctrlDrv.toNat ∧
    (0xA : BitVec 4).toNat = { running .program with lbaLo := 0x0ABCDEF1 }.lbaLo.toNat / 2 ^ 24 % 16 ∧
    (mode48 (running .program)).cfg.hasLba48 = true ∧ (mode48 (running .program)).ctrlMode = true := by decide

theorem witness_Issue :
    (running .issue).seqState = .issue ∧ (running .issue).ctrlMode = false ∧ (mode48 (running .issue)).ctrlMode = true ∧
    (mode48 (running .issue)).cfg.hasLba48 = true ∧ (running .issue).cfg.settleReads ≠ 0 ∧
    { Config.default with settleReads := 0 }.settleReads = 0 := by decide

/-- Both ways BSY can be, below and at the bound. -/
theorem witness_WaitNbsy :
    (running .waitNbsy).seqState = .waitNbsy ∧ (nextByte (answering 0x7F (running .waitNbsy))).getLsbD 7 = false ∧
    (nextByte (answering 0x80 (running .waitNbsy))).getLsbD 7 = true ∧
    (running .waitNbsy).seqN.toNat + 1 < (running .waitNbsy).timeout.toNat ∧
    { running .waitNbsy with seqN := 2 }.timeout.toNat ≤ { running .waitNbsy with seqN := 2 }.seqN.toNat + 1 := by decide

/-- ERR, DRQ alone, neither, and BSY with both. -/
theorem witness_WaitDrq :
    (running .waitDrq).seqState = .waitDrq ∧
    [0x59, 0x58, 0x50, 0x89].map (fun v => (fun b : Byte => (b.getLsbD 7, b.getLsbD 0, b.getLsbD 3))
      (nextByte (answering v (running .waitDrq)))) =
      [(false, true, true), (false, false, true), (false, false, false), (true, true, true)] ∧
    (running .waitDrq).seqN.toNat + 1 < (running .waitDrq).timeout.toNat ∧
    { running .waitDrq with seqN := 2 }.timeout.toNat ≤ { running .waitDrq with seqN := 2 }.seqN.toNat + 1 := by decide

theorem witness_Settle :
    (running .settle).seqState = .settle ∧ (running .settle).seqJ + 1 ≠ (running .settle).cfg.settleReads ∧
    { running .settle with seqJ := 3 }.seqJ + 1 = (running .settle).cfg.settleReads := by decide

theorem witness_ReadErr : (running .readErr).seqState = .readErr := by decide

/-- Words 0, 254 and 255 of a sector, the last byte of memory, and both ends of a request of two sectors. -/
theorem witness_Transfer :
    (running .transfer).seqState = .transfer ∧ (running .transfer).seqI.toNat < 255 ∧
    { running .transfer with seqI := 254 }.seqI.toNat < 255 ∧ { running .transfer with seqI := 255 }.seqI.toNat = 255 ∧
    0x7E00 + 512 * 0 + 2 * 0 + 1 < 2 ^ (running .transfer).cfg.memAddrWidth ∧
    0xFFFFFE00 + 512 * 0 + 2 * 255 + 1 < 2 ^ (running .transfer).cfg.memAddrWidth ∧
    memAdmit (running .transfer).cfg 0x7E00 1 = true ∧ memAdmit (running .transfer).cfg 0x7E01 1 = true ∧
    { running .transfer with seqS := 0 }.seqS.toNat + 1 ≠ (running .transfer).count.toNat ∧
    { running .transfer with seqS := 1 }.seqS.toNat + 1 = (running .transfer).count.toNat := by decide

/-- Each of the two bytes refused alone. -/
theorem witness_TransferNotAdmitted :
    transferAddr (running .transfer) + 1 < 2 ^ (running .transfer).cfg.memAddrWidth ∧
    memAdmit { Config.default with memRefused := [(0x7E00, 1)] } (transferAddr (running .transfer)) 1 = false ∧
    memAdmit { Config.default with memRefused := [(0x7E01, 1)] } (transferAddr (running .transfer) + 1) 1 = false := by decide

theorem witness_TransactionsOnlyInTheirState :
    Instr.isHost .inData = false ∧ (∃ t, exec .inData (running .transfer) = .next t) ∧
    (∃ t, exec .outDevhead (running .program) = .next t) ∧ (∃ t, exec .outCmd (running .issue) = .next t) ∧
    (∃ t, exec .inStatus (running .settle) = .next t) ∧ (∃ t, exec .inError (running .readErr) = .next t) ∧
    (∃ t, exec (.devheadLba28 0 0) (running .program) = .next t) ∧ (running .idle).seqState = .idle ∧
    (running .validate).seqState = .validate :=
  ⟨rfl, ⟨_, rfl⟩, ⟨_, rfl⟩, ⟨_, rfl⟩, ⟨_, rfl⟩, ⟨_, rfl⟩, ⟨_, rfl⟩, rfl, rfl⟩

theorem witness_Reset :
    resetting.cfg.ok = true ∧ resetting.pending = [.reset] ∧ ∃ t, step resetting = .next t := ⟨rfl, rfl, ⟨_, rfl⟩⟩

theorem witness_StepRunsDecodedHostTransaction :
    (hostTurn 0x140 0x1 request).cfg.ok = true ∧ (hostTurn 0x140 0x1 request).pending = [.host 0x140 0x1] ∧
    decode (hostBytes 0x140 0x1) = .instr (.wrCtrl 0x1) := by decide

/-- Both shapes of a sequencer's turn, every position, and entry 4 of either list. -/
theorem witness_StepRunsIssuedTransaction :
    (running .transfer).cfg.ok = true ∧ (running .transfer).pending = [] ∧
    { running .program with seqK := 4 }.seqK.toNat < (if false = true then 9 else 5) ∧
    { mode48 (running .program) with seqK := 8 }.seqK.toNat < (if true = true then 9 else 5) ∧
    [Instr.outDevhead, .outSeccount, .outLbalo, .outLbamid, .outLbahi][4]? = some .outLbahi ∧
    { running .issue with pending := [.sequencer] }.pending = .sequencer :: [] := by decide

theorem witness_IdleIsInert :
    request.cfg.ok = true ∧ request.seqState = .idle ∧ request.pending = [] ∧
    { request with pending := [.sequencer, .reset] }.pending = .sequencer :: [.reset] := by decide

theorem witness_UndescribedConfiguration :
    { Config.default with memAddrWidth := 15 }.memAddrWidth < 16 ∧ 32 < { Config.default with memAddrWidth := 33 }.memAddrWidth ∧
    { Config.default with memAddrWidth := 16 }.ok = true ∧ { Config.default with memAddrWidth := 32 }.ok = true ∧
    0xFFFF < { Config.default with devBase := 0xFFF9 }.devBase.toNat + 7 ∧
    { Config.default with devBase := 0xFFF8 }.devBase.toNat + 7 ≤ 0xFFFF := by decide

theorem witness_PlacedWordRunsNext :
    request.cfg.ok = true ∧ decodeTableWord 16 0x140 = some (.wrCtrl 0) ∧ decodeTableWord 8 0x08 = some .inData ∧
    decodeTableWord 8 0x50 = some (.devheadLba48 1) := by decide

/-- The first and last address that exist, the first that does not, and reads of all memory, of nothing and of one byte past the
end. -/
theorem witness_HostMemoryAccess :
    request.cfg.ok = true ∧ 0 < 2 ^ request.cfg.memAddrWidth ∧ 0xFFFFFFFF < 2 ^ request.cfg.memAddrWidth ∧
    2 ^ request.cfg.memAddrWidth ≤ 0x100000000 ∧ { request with pending := [.memWrite 0 1] }.pending = [.memWrite 0 1] ∧
    { request with pending := [.memRead 0 0x100000000] }.pending = [.memRead 0 0x100000000] ∧
    0 + 0x100000000 ≤ 2 ^ request.cfg.memAddrWidth ∧ 0x100000000 + 0 ≤ 2 ^ request.cfg.memAddrWidth ∧
    2 ^ request.cfg.memAddrWidth < 0xFFFFFFFF + 2 := by decide

theorem witness_PollLoops :
    request.cfg.ok = true ∧ { request with pending := [.poll 0x104 2 2] }.pending = [.poll 0x104 2 2] ∧
    { request with pending := [.pollTest 0x104 2 2] }.pending = [.pollTest 0x104 2 2] ∧
    { request with responses := [.okayRead 0x11] }.responses.getLast? = some (.okayRead 0x11) := by decide

/-- States in which the invariant holds, each with what its position needs. -/
theorem witness_inv_validate : Inv (running .validate) := by
  constructor <;> first | decide | simp [positionOk, running, request, State.reset, State.resetWith]

theorem witness_inv_waitNbsy : Inv (running .waitNbsy) := by
  constructor <;> first | decide | simp [positionOk, running, request, State.reset, State.resetWith]

theorem witness_inv_waitDrq : Inv { running .waitDrq with seqS := 1 } := by
  constructor <;> first | decide | simp [positionOk, running, request, State.reset, State.resetWith]

theorem witness_inv_transfer : Inv { running .transfer with lastStatus := 0x58, seqS := 1, seqI := 255 } := by
  constructor <;> first | decide | simp [positionOk, running, request, State.reset, State.resetWith, bsy, err, drq]

theorem witness_inv_readErr : Inv { running .readErr with lastStatus := 0x51 } := by
  constructor <;> first | decide | simp [positionOk, running, request, State.reset, State.resetWith, bsy, err]

/-- For the rules of one step from a state with the invariant: StepKeepsInvariant, ExactlyOneOfBusyAndDone,
RequestFixedWhileBusy, StepMakesOnlyIssuedTransactions, BusySequencerStepsUnlessStuck, MemoryWrittenOnlyInDestination,
PollCountNeverExceedsTimeout, StepKeepsConfiguration. -/
theorem witness_StepRules :
    ∃ t, Inv (running .waitNbsy) ∧ (running .waitNbsy).cfg.ok = true ∧ SequencerAlone (running .waitNbsy) ∧
      (running .waitNbsy).statusBusy = true ∧ (running .waitNbsy).seqN.toNat ≤ (running .waitNbsy).timeout.toNat ∧
      (∀ rest, (running .waitNbsy).pending ≠ .reset :: rest) ∧
      (∀ a v rest, (running .waitNbsy).pending ≠ .memWrite a v :: rest) ∧ step (running .waitNbsy) = .next t :=
  ⟨_, witness_inv_waitNbsy, rfl, rfl, rfl, by decide, (by simp [running, request, State.reset, State.resetWith]),
    (by simp [running, request, State.reset, State.resetWith]), rfl⟩

/-- States one step before each of the five endings of an operation (R151). -/
def failing : State := { running .validate with count := 0 }
def lastPoll (p : SeqState) : State := answering 0x80 { running p with seqN := 2 }
def erring : State := answering 0x04 { running .readErr with lastStatus := 0x51 }

theorem witness_inv_failing : Inv failing := by
  constructor <;> first | decide | simp [positionOk, failing, running, request, State.reset, State.resetWith]

theorem witness_inv_lastPoll : Inv (lastPoll .waitNbsy) ∧ Inv (lastPoll .waitDrq) := by
  constructor <;> constructor <;>
    first | decide | simp [positionOk, lastPoll, answering, running, request, State.reset, State.resetWith]

theorem witness_inv_erring : Inv erring := by
  constructor <;> first | decide | simp [positionOk, erring, answering, running, request, State.reset, State.resetWith, bsy, err]

/-- For OperationEndsByStateTable, the endings in TRANSFER (the last word of the last sector), VALIDATE, WAIT_NBSY, WAIT_DRQ and
READ_ERR, each with RESULT as R151 gives it. -/
theorem witness_OperationEnds :
    (∃ t, Inv { running .transfer with lastStatus := 0x58, seqS := 1, seqI := 255 } ∧
      step { running .transfer with lastStatus := 0x58, seqS := 1, seqI := 255 } = .next t ∧ t.seqState = .idle ∧
      t.result = 0x00580000) ∧
    (∃ t, Inv failing ∧ step failing = .next t ∧ t.seqState = .idle ∧ t.result = 0x00000021) ∧
    (∃ t, Inv (lastPoll .waitNbsy) ∧ step (lastPoll .waitNbsy) = .next t ∧ t.seqState = .idle ∧ t.result = 0x00800012) ∧
    (∃ t, Inv (lastPoll .waitDrq) ∧ step (lastPoll .waitDrq) = .next t ∧ t.seqState = .idle ∧ t.result = 0x00800022) ∧
    (∃ t, Inv erring ∧ step erring = .next t ∧ t.seqState = .idle ∧ t.result = 0x00510403) :=
  ⟨⟨_, witness_inv_transfer, rfl, rfl, by decide⟩, ⟨_, witness_inv_failing, rfl, by decide, by decide⟩,
    ⟨_, witness_inv_lastPoll.1, rfl, by decide, by decide⟩, ⟨_, witness_inv_lastPoll.2, rfl, by decide, by decide⟩,
    ⟨_, witness_inv_erring, rfl, rfl, by decide⟩⟩

/-- For the clause of StepMakesOnlyIssuedTransactions on memory reads. -/
theorem witness_MemReadStep :
    ∃ t, step { request with pending := [.memRead 0 1] } = .next t ∧ t.history = [.memRead 0 1 [none]] := ⟨_, rfl, rfl⟩

/-- For OperationFinishesWithinBound and DataDeliveredInOrder. -/
theorem witness_WholeOperation :
    Inv (running .validate) ∧ (running .validate).cfg.ok = true ∧ SequencerAlone (running .validate) ∧
      (running .validate).seqState = .validate ∧ DestinationAdmitted (running .validate) ∧
      ∃ t, core.run 1 (running .validate) = .next t :=
  ⟨witness_inv_validate, rfl, rfl, rfl, fun _ _ => rfl, ⟨_, rfl⟩⟩

end Sys2Proof.Tests
end

section
/-! SUPPORT. The machine's scope (spec/00_scope.md): what a step does with the parameters of R8 and R9, and a host agent's
memory accesses (R12). -/

namespace Sys2Proof.Machine

/-! ### The configurations a step refuses -/

/-- R9 and R46: the described configurations. -/
theorem config_ok_iff (c : Config) :
    c.ok = true ↔ 16 ≤ c.memAddrWidth ∧ c.memAddrWidth ≤ 32 ∧ c.devBase.toNat + 7 ≤ 0xFFFF := by
  simp only [Config.ok, Bool.and_eq_true, decide_eq_true_eq, and_assoc]

theorem step_refused {s : State} (h : ¬ s.cfg.ok = true) : step s = .refused .configurationNotDescribed := by
  simp only [step, if_neg h]

theorem resetWith_timeout_of_raw_zero {c : Config} (h : c.timeoutResetRaw = 0) : (State.resetWith c).timeout = 1 := by
  show c.timeoutReset = 1
  rw [Config.timeoutReset, if_pos h]

/-! ### No transaction is refused -/

theorem taskfileWrite_ne_refused (o : BitVec 3) (s : State) (r : Refusal) : taskfileWrite o s ≠ .refused r := by
  unfold taskfileWrite
  split
  · split <;> simp
  · simp

theorem execInStatus_ne_refused (s : State) (r : Refusal) : execInStatus s ≠ .refused r := by
  unfold execInStatus; split <;> simp

theorem execInData_ne_refused (s : State) (r : Refusal) : execInData s ≠ .refused r := by
  unfold execInData
  split
  · split
    · split <;> simp
    · simp
  · simp

/-- An arm that issues its transaction at one position and faults elsewhere is never refused. -/
theorem ite_next_fault_ne_refused (p : Prop) [Decidable p] (t : State) (f : Fault) (r : Refusal) :
    (if p then .next t else .fault f : Host.Outcome State Fault Refusal) ≠ .refused r := by
  split <;> simp

/-- Every instruction has a meaning: a next state or, for the sequencer's transactions, a fault. -/
theorem exec_ne_refused (i : Instr) (s : State) (r : Refusal) : exec i s ≠ .refused r := by
  by_cases hi : i.isHost = true
  · obtain ⟨v, e⟩ | ⟨hd, e⟩ | e | ⟨store, e, -⟩ := exec_host hi s <;> simp [e]
  · cases i with
    | outDevhead => exact taskfileWrite_ne_refused 6 s r
    | outSeccount => exact taskfileWrite_ne_refused 2 s r
    | outLbalo => exact taskfileWrite_ne_refused 3 s r
    | outLbamid => exact taskfileWrite_ne_refused 4 s r
    | outLbahi => exact taskfileWrite_ne_refused 5 s r
    | inStatus => exact execInStatus_ne_refused s r
    | inData => exact execInData_ne_refused s r
    | outCmd | inError | cmdReadSectors | cmdReadSectorsExt | devheadLba28 | devheadLba48 =>
      exact ite_next_fault_ne_refused _ _ _ r
    | _ => exact absurd rfl hi

theorem sequencerTurn_ne_refused (s : State) (r : Refusal) : runFetched (sequencerTurn s) ≠ .refused r := by
  unfold sequencerTurn
  split
  case h_1 | h_2 => simp [runFetched]
  all_goals
    split
    · simp [runFetched]
    · split
      · exact exec_ne_refused _ s r
      · simp [runFetched]

theorem hostMemRead_ne_refused (a n : Nat) (s : State) (r : Refusal) : hostMemRead a n s ≠ .refused r :=
  ite_next_fault_ne_refused _ _ _ r

theorem hostMemWrite_ne_refused (a : Nat) (v : Byte) (s : State) (r : Refusal) : hostMemWrite a v s ≠ .refused r :=
  ite_next_fault_ne_refused _ _ _ r

theorem fetch_ne_refused (s : State) (r : Refusal) : runFetched (fetch s) ≠ .refused r := by
  unfold fetch
  split
  · exact sequencerTurn_ne_refused s r
  · exact sequencerTurn_ne_refused _ r
  · exact exec_ne_refused _ _ r
  · simp [runFetched]
  · exact hostMemRead_ne_refused _ _ _ r
  · exact hostMemWrite_ne_refused _ _ _ r
  · simp [runFetched]
  · simp [runFetched]

/-- With a described configuration no agent's step is refused. -/
theorem step_ne_refused {s : State} (h : s.cfg.ok = true) (r : Refusal) : step s ≠ .refused r := by
  rw [step_eq h]
  exact fetch_ne_refused s r

/-- Settles O41: a step is refused exactly when the configuration is not `Config.ok`. -/
theorem undescribedConfigurationRefused : Obligations.UndescribedConfigurationRefused := by
  intro s
  refine ⟨resetWith_timeout_of_raw_zero, fun hw => step_refused ?_, fun hb => step_refused ?_,
    fun h16 h32 hb => step_ne_refused ((config_ok_iff s.cfg).mpr ⟨h16, h32, hb⟩)⟩
  · rw [config_ok_iff]; omega
  · rw [config_ok_iff]; omega

/-! ### The parameters stay -/

@[simp] theorem pollRead_cfg (h : BitVec 9) (mask value : Word) (s : State) : (pollRead h mask value s).cfg = s.cfg := rfl

@[simp] theorem pollBranch_cfg (h : BitVec 9) (mask value : Word) (s : State) : (pollBranch h mask value s).cfg = s.cfg := by
  unfold pollBranch; split <;> rfl

@[simp] theorem storeCtrl_cfg (w : Word) (s : State) : (storeCtrl w s).cfg = s.cfg := by
  unfold storeCtrl; simp only; split <;> rfl

/-- A write that stores in a register keeps the parameters when its store does. -/
theorem csrWrite_cfg {store : State → State} {s : State} (h : (store s).cfg = s.cfg) : (csrWrite store s).cfg = s.cfg := by
  simp only [csrWrite, respond_cfg]; split
  · rfl
  · exact h

theorem SequencerStep.cfg {s t : State} (h : SequencerStep s t) : t.cfg = s.cfg := by
  cases h.split_case <;> rfl

theorem exec_host_cfg {i : Instr} {s t : State} (hi : i.isHost = true) (h : exec i s = .next t) : t.cfg = s.cfg := by
  obtain ⟨v, e⟩ | ⟨hd, e⟩ | e | ⟨store, e, hstore⟩ := exec_host hi s <;> (rw [e] at h; cases h)
  · rfl
  · rfl
  · rfl
  · refine csrWrite_cfg ?_
    obtain ⟨w, rfl⟩ | ⟨w, rfl⟩ | ⟨w, rfl⟩ | ⟨w, rfl⟩ | ⟨w, rfl⟩ | ⟨w, rfl⟩ | ⟨w, rfl⟩ := hstore
    · exact storeCtrl_cfg w s
    all_goals rfl

theorem step_cfg {s t : State} (h : step s = .next t) : t.cfg = s.cfg := by
  obtain ⟨-, hq⟩ | ⟨rest, -, hq⟩ | ⟨hd, w, rest, -, he⟩ | ⟨rest, -, rfl⟩ | ⟨a, n, rest, -, -, rfl⟩ |
    ⟨a, v, rest, -, -, rfl⟩ | ⟨hd, m, v, rest, -, rfl⟩ | ⟨hd, m, v, rest, -, rfl⟩ := step_cases h
  · exact hq.cfg
  · exact hq.cfg
  · exact (exec_host_cfg (decodeHost_isHost hd w) he :)
  · rfl
  · rfl
  · rfl
  · rfl
  · exact pollBranch_cfg hd m v _

/-- Settles O43, by the cases of a step. -/
theorem stepKeepsConfiguration : Obligations.StepKeepsConfiguration := fun _ _ => step_cfg

/-! ### A host agent's memory accesses -/

theorem step_memRead {s : State} {a n : Nat} {rest : List Turn} (hc : s.cfg.ok = true)
    (hp : s.pending = .memRead a n :: rest) : step s = hostMemRead a n { s with pending := rest } := by
  rw [step_eq hc, fetch, hp]; rfl

theorem step_memWrite {s : State} {a : Nat} {v : Byte} {rest : List Turn} (hc : s.cfg.ok = true)
    (hp : s.pending = .memWrite a v :: rest) : step s = hostMemWrite a v { s with pending := rest } := by
  rw [step_eq hc, fetch, hp]; rfl

theorem hostMemRead_next {s : State} {a n : Nat} (h : a + n ≤ 2 ^ s.cfg.memAddrWidth) :
    hostMemRead a n s = .next (respond (.memBytes (Memory.readBytes s.mem a n)) (memReadBytes a n s)) :=
  if_pos (decide_eq_true h)

theorem hostMemRead_fault {s : State} {a n : Nat} (h : 2 ^ s.cfg.memAddrWidth < a + n) :
    hostMemRead a n s = .fault (.noSuchAddress (a + n - 1)) :=
  if_neg (by simpa [accessExists] using h)

theorem hostMemWrite_next {s : State} {a : Nat} (v : Byte) (h : a < 2 ^ s.cfg.memAddrWidth) :
    hostMemWrite a v s = .next { s with mem := Memory.write s.mem a v } :=
  if_pos (decide_eq_true h)

theorem hostMemWrite_fault {s : State} {a : Nat} (v : Byte) (h : 2 ^ s.cfg.memAddrWidth ≤ a) :
    hostMemWrite a v s = .fault (.noSuchAddress a) :=
  if_neg (by simpa [addressExists] using h)

/-- Settles O44: the two turns below and above the end of the address space, and the laws of memory. -/
theorem hostMemoryAccess : Obligations.HostMemoryAccess := by
  intro s a n v rest hc
  refine ⟨fun hp ha => ⟨Memory.write s.mem a v, ?_, Memory.read_write_same s.mem a v, fun x => Memory.read_write_other s.mem v⟩,
    fun hp ha => ⟨Memory.readBytes s.mem a n, ?_, Memory.readBytes_length s.mem a n, fun k => Memory.readBytes_get s.mem a⟩,
    fun hp ha => ?_, fun hp ha => ?_⟩
  · rw [step_memWrite hc hp]; exact hostMemWrite_next v ha
  · rw [step_memRead hc hp]; exact hostMemRead_next ha
  · rw [step_memRead hc hp]; exact hostMemRead_fault ha
  · rw [step_memWrite hc hp]; exact hostMemWrite_fault v ha

end Sys2Proof.Machine
end

section
/-! SUPPORT. The state of the PSR (spec/10_state.md): the values after reset (R43), what an accepted START overwrites (R41),
and how a step moves BUSY, DONE and `seq.state` together (R37). -/

namespace Sys2Proof.Machine

/-! ### Reset -/

theorem step_reset {s : State} {rest : List Turn} (hc : s.cfg.ok = true) (hp : s.pending = .reset :: rest) :
    step s = .next (assertReset { s with pending := rest }) := by
  rw [step_eq hc, fetch, hp]; rfl

theorem eq_assertReset_of_step {s t : State} {rest : List Turn} (hp : s.pending = .reset :: rest)
    (h : step s = .next t) : t = assertReset { s with pending := rest } := by
  rw [step_reset (cfg_ok_of_step h) hp] at h
  exact (Host.Outcome.next.inj h).symm

/-- A machine just set up with its parameters is one that reset leaves as it is. -/
theorem assertReset_resetWith (c : Config) : assertReset (State.resetWith c) = State.resetWith c := rfl

/-- R30: RETCODE of the RESULT that reset and an accepted START leave. -/
theorem retcodeWord_none : retcodeWord 0x0000000F = 0x80000000 := by decide

/-- Settles O36: each of the three kinds of state is what `assertReset` makes of some state. -/
theorem resetValuesOfEveryRegister : Obligations.ResetValuesOfEveryRegister := by
  refine ⟨fun s rest hc hp => ⟨_, step_reset hc hp⟩, fun t ht => ?_⟩
  obtain ⟨u, rfl⟩ : ∃ u, t = assertReset u := by
    obtain rfl | ⟨c, rfl⟩ | ⟨s, rest, hp, h⟩ := ht
    · exact ⟨_, (assertReset_resetWith Config.default).symm⟩
    · exact ⟨_, (assertReset_resetWith c).symm⟩
    · exact ⟨_, eq_assertReset_of_step hp h⟩
  exact ⟨rfl, rfl, rfl, rfl, rfl, rfl, rfl, rfl, rfl, rfl, rfl, retcodeWord_none, rfl, rfl, rfl, rfl, rfl, rfl, rfl⟩

/-! ### An accepted START -/

/-- R100: a write of CTRL with START = 1 while BUSY = 0 stores MODE and DRV and starts. -/
theorem exec_wrCtrl_start {s : State} {w : Word} (hb : s.statusBusy = false) (hw : wdataStart w = true) :
    exec (.wrCtrl w) s =
      .next (respond .okay (start { s with ctrlMode := wdataMode s.cfg w, ctrlDrv := wdataDrv w })) := by
  simp [exec, execWrCtrl, csrWrite, storeCtrl, hb, hw]

/-- Settles O22: `Start` overwrites every register in which the two states differ. -/
theorem startForgetsRetainedState : Obligations.StartForgetsRetainedState :=
  fun _ _ _ _ _ _ _ _ _ _ _ hb hw => ⟨_, exec_wrCtrl_start hb hw, exec_wrCtrl_start hb hw⟩

/-! ### BUSY, DONE and `seq.state` in one step -/

/-- BUSY and DONE are as before, and so is whether `seq.state` is IDLE. -/
def StatusKept (s t : State) : Prop :=
  t.statusBusy = s.statusBusy ∧ t.statusDone = s.statusDone ∧ (t.seqState = .idle ↔ s.seqState = .idle)

/-- An operation has begun: BUSY = 1, DONE = 0 (R135). -/
def StatusStarted (t : State) : Prop := t.statusBusy = true ∧ t.statusDone = false ∧ t.seqState ≠ .idle

/-- An operation has finished: BUSY = 0, DONE = 1 (R146). -/
def StatusFinished (t : State) : Prop := t.statusBusy = false ∧ t.statusDone = true ∧ t.seqState = .idle

/-- The three ways a step other than reset moves BUSY, DONE and `seq.state`. -/
def StatusMove (s t : State) : Prop := StatusKept s t ∨ StatusStarted t ∨ StatusFinished t

theorem StatusMove.refl (s : State) : StatusMove s s := .inl ⟨rfl, rfl, .rfl⟩

theorem statusFinished_finish (cls : ResultClass) (d : BitVec 4) (e st : Byte) (s : State) :
    StatusFinished (finish cls d e st s) := ⟨rfl, rfl, rfl⟩

theorem SequencerStep.statusMove {s t : State} (h : SequencerStep s t) : StatusMove s t := by
  cases h.split_case with
  | idle | stuck => exact .refl s
  | validateFail | nbsyTimeout | drqTimeout | readErr | transferLast => exact .inr (.inr (statusFinished_finish ..))
  | nbsyStay | programMore | settleMore | drqStay | transferMore => exact .inl ⟨rfl, rfl, .rfl⟩
  | validatePass | nbsyReady | programLast | issueSettle | issueWait | settleLast | drqError | drqReady | transferSector =>
    exact .inl ⟨rfl, rfl, by simp [‹s.seqState = _›]⟩

/-- A write of CTRL starts an operation or moves nothing. -/
theorem storeCtrl_statusMove (w : Word) (s : State) : StatusMove s (storeCtrl w s) := by
  unfold storeCtrl
  by_cases hw : wdataStart w = true
  · simp only [if_pos hw]; exact .inr (.inl ⟨rfl, rfl, by simp⟩)
  · simp only [if_neg hw]; exact .refl s

/-- A write moves BUSY, DONE and `seq.state` as its store does, or not at all. -/
theorem csrWrite_statusMove {store : State → State} {s : State} (h : StatusMove s (store s)) :
    StatusMove s (csrWrite store s) := by
  unfold csrWrite
  split
  · exact .refl s
  · exact h

theorem exec_host_statusMove {i : Instr} {s t : State} (hi : i.isHost = true) (h : exec i s = .next t) :
    StatusMove s t := by
  obtain ⟨v, e⟩ | ⟨hd, e⟩ | e | ⟨store, e, hstore⟩ := exec_host hi s <;> (rw [e] at h; cases h)
  · exact .refl s
  · exact .refl s
  · exact .refl s
  · refine csrWrite_statusMove ?_
    obtain ⟨w, rfl⟩ | ⟨w, rfl⟩ | ⟨w, rfl⟩ | ⟨w, rfl⟩ | ⟨w, rfl⟩ | ⟨w, rfl⟩ | ⟨w, rfl⟩ := hstore
    · exact storeCtrl_statusMove w s
    all_goals exact .refl s

theorem pollBranch_statusMove (h : BitVec 9) (mask value : Word) (s : State) :
    StatusMove s (pollBranch h mask value s) := by
  unfold pollBranch; split <;> exact .refl s

/-- Every step but reset keeps the status, starts an operation or finishes one. -/
theorem step_statusMove {s t : State} (h : step s = .next t) (hr : ∀ rest, s.pending ≠ .reset :: rest) :
    StatusMove s t := by
  obtain ⟨-, hq⟩ | ⟨rest, -, hq⟩ | ⟨hd, w, rest, -, he⟩ | ⟨rest, hp, -⟩ | ⟨a, n, rest, -, -, rfl⟩ |
    ⟨a, v, rest, -, -, rfl⟩ | ⟨hd, m, v, rest, -, rfl⟩ | ⟨hd, m, v, rest, -, rfl⟩ := step_cases h
  · exact hq.statusMove
  · exact (hq.statusMove :)
  · exact (exec_host_statusMove (decodeHost_isHost hd w) he :)
  · exact absurd hp (hr rest)
  · exact .refl s
  · exact .refl s
  · exact .refl s
  · exact (pollBranch_statusMove hd m v _ :)

/-- R37 across a move: BUSY = 1 exactly outside IDLE. -/
theorem StatusMove.busy_iff {s t : State} (m : StatusMove s t) (h : s.statusBusy = true ↔ s.seqState ≠ .idle) :
    t.statusBusy = true ↔ t.seqState ≠ .idle := by
  obtain ⟨hb, -, hi⟩ | ⟨hb, -, hi⟩ | ⟨hb, -, hi⟩ := m
  · rw [hb, h, ne_eq, ne_eq, hi]
  · simp [hb, hi]
  · simp [hb, hi]

/-- R37 across a move: BUSY = 1 implies DONE = 0. -/
theorem StatusMove.busy_not_done {s t : State} (m : StatusMove s t) (h : s.statusBusy = true → s.statusDone = false) :
    t.statusBusy = true → t.statusDone = false := by
  obtain ⟨hb, hd, -⟩ | ⟨-, hd, -⟩ | ⟨hb, -, -⟩ := m
  · rwa [hb, hd]
  · exact fun _ => hd
  · simp [hb]

/-- R37 across a move: where one of BUSY and DONE was 1, exactly one is. -/
theorem StatusMove.busy_ne_done {s t : State} (m : StatusMove s t) (h : s.statusBusy = true → s.statusDone = false)
    (ho : s.statusBusy = true ∨ s.statusDone = true) : t.statusBusy ≠ t.statusDone := by
  obtain ⟨hb, hd, -⟩ | ⟨hb, hd, -⟩ | ⟨hb, hd, -⟩ := m
  · rw [hb, hd]
    intro he
    have hs : s.statusBusy = true := ho.elim id he.trans
    exact Bool.false_ne_true ((h hs).symm.trans (he.symm.trans hs))
  · simp [hb, hd]
  · simp [hb, hd]

/-- Settles O48: a reset turn clears both bits; of every other step the three ways of `StatusMove` keep R37. -/
theorem exactlyOneOfBusyAndDone : Obligations.ExactlyOneOfBusyAndDone := by
  refine ⟨rfl, rfl, fun s t hi h => ?_⟩
  by_cases hr : ∃ rest, s.pending = .reset :: rest
  · obtain ⟨rest, hp⟩ := hr
    obtain rfl := eq_assertReset_of_step hp h
    exact ⟨fun _ => rfl, by simp, fun _ => ⟨rfl, rfl⟩, fun hn => absurd hp (hn rest)⟩
  · have m : StatusMove s t := step_statusMove h (not_exists.mp hr)
    exact ⟨m.busy_not_done hi.busy_not_done, m.busy_iff hi.busy_iff, fun hp => absurd hp hr,
      fun _ ho => m.busy_ne_done hi.busy_not_done ho⟩

end Sys2Proof.Machine
end

section
/-! SUPPORT. Register reads (spec/20_memory.md R56): what a read transaction leaves unchanged. -/

namespace Sys2Proof.Machine

/-- Every read transaction is a `csrRead` of some RDATA. -/
theorem exec_read {i : Instr} (h : i.isRead = true) (s : State) : ∃ v, exec i s = .next (csrRead v s) := by
  cases i with
  | rdCtrl | rdStatus | rdLbaLo | rdLbaHi | rdCount | rdDestAddr | rdDestLen | rdTimeout | rdResult | rdRetcode
  | rdProgress | rdPollCount | rsvdRd => exact ⟨_, rfl⟩
  | _ => exact absurd h Bool.false_ne_true

/-- R56: of the whole state, a `csrRead` changes the responses alone. -/
theorem csrRead_eq (v : Word) (s : State) :
    csrRead v s = { s with responses := s.responses ++ [.okayRead v] } := rfl

/-- Settles O14: each read transaction is a `csrRead`, which only answers. -/
theorem readsHaveNoSideEffect : Obligations.ReadsHaveNoSideEffect := by
  intro i s hi
  obtain ⟨v, hv⟩ := exec_read hi s
  exact ⟨v, hv.trans (congrArg Host.Outcome.next (csrRead_eq v s))⟩

end Sys2Proof.Machine
end

section
/-! SUPPORT. The opcode table as the decoder reads it (spec/30_encoding.md section 1): rows that exclude one another match a
value at most once, so the row a decoded instruction belongs to is the only one. -/

namespace Sys2Proof.Machine

/-! ### Rows that exclude one another -/

/-- A row of the opcode table: mask, match value and mnemonic. -/
abbrev Row (n : Nat) := BitVec n × BitVec n × String

/-- The values of a row: their masked bits are the match value. -/
def Row.Holds {n : Nat} (r : Row n) (v : BitVec n) : Prop := v &&& r.1 = r.2.1

/-- No value is in two rows, since the match values of two rows differ in a bit that both masks have. -/
def RowsDisjoint {n : Nat} (rows : List (Row n)) : Prop := rows.Pairwise fun r q => r.2.1 &&& q.1 ≠ q.2.1 &&& r.1

theorem Row.not_holds_of_disjoint {n : Nat} {r q : Row n} {v : BitVec n} (h : r.2.1 &&& q.1 ≠ q.2.1 &&& r.1)
    (hr : r.Holds v) : ¬ q.Holds v := by
  intro hq
  apply h
  rw [← show v &&& r.1 = r.2.1 from hr, ← show v &&& q.1 = q.2.1 from hq, BitVec.and_assoc, BitVec.and_assoc,
    BitVec.and_comm r.1]

theorem matching_cons_of_holds {n : Nat} {r : Row n} {rows : List (Row n)} {v : BitVec n} (h : r.Holds v) :
    matching (r :: rows) v = r.2.2 :: matching rows v := by
  simp [matching, show v &&& r.1 = r.2.1 from h]

theorem matching_cons_of_not_holds {n : Nat} {r : Row n} {rows : List (Row n)} {v : BitVec n} (h : ¬ r.Holds v) :
    matching (r :: rows) v = matching rows v := by
  simp [matching, show ¬ v &&& r.1 = r.2.1 from h]

theorem matching_eq_nil_iff {n : Nat} {rows : List (Row n)} {v : BitVec n} :
    matching rows v = [] ↔ ∀ r ∈ rows, ¬ r.Holds v := by
  simp [matching, Row.Holds]

/-- Where the rows exclude one another, the row that holds a value is the only match. -/
theorem matching_eq_singleton {n : Nat} {rows : List (Row n)} {r : Row n} {v : BitVec n} (hd : RowsDisjoint rows)
    (hr : r ∈ rows) (hv : r.Holds v) : matching rows v = [r.2.2] := by
  induction rows with
  | nil => exact absurd hr List.not_mem_nil
  | cons q rows ih =>
    obtain ⟨hq, hrows⟩ := List.pairwise_cons.mp hd
    obtain rfl | hr := List.mem_cons.mp hr
    · rw [matching_cons_of_holds hv, matching_eq_nil_iff.mpr fun x hx => Row.not_holds_of_disjoint (hq x hx) hv]
    · rw [matching_cons_of_not_holds fun hqv => Row.not_holds_of_disjoint (hq r hr) hqv hv, ih hrows hr]

theorem hostRows_disjoint : RowsDisjoint hostRows := by unfold RowsDisjoint; decide

theorem busRows_disjoint : RowsDisjoint busRows := by unfold RowsDisjoint; decide

theorem deviceByteRows_disjoint : RowsDisjoint deviceByteRows := by unfold RowsDisjoint; decide

/-! ### Format H -/

/-- R77: SIZE and ADDR[1:0] as numbers. -/
theorem badDescriptor_iff (h : BitVec 9) : badDescriptor h = true ↔ h.toNat / 2 ^ 7 ≠ 0b10 ∨ h.toNat % 4 ≠ 0 := by
  have := h.isLt
  simp only [badDescriptor, Bool.or_eq_true, bne_iff_ne, ne_eq, ← BitVec.toNat_inj, BitVec.extractLsb'_toNat,
    Nat.shiftRight_eq_div_pow, BitVec.toNat_ofNat]
  omega

theorem decodeHost_of_bad {h : BitVec 9} (hb : badDescriptor h = true) (w : Word) : decodeHost h w = .badAccess h :=
  if_pos hb

theorem decodeHost_ne_badAccess {h : BitVec 9} (hb : ¬ badDescriptor h = true) (w : Word) (g : BitVec 9) :
    decodeHost h w ≠ .badAccess g := by
  rw [decodeHost, if_neg hb]
  split <;> simp

theorem decodeHost_eq_badAccess_iff (h : BitVec 9) (w : Word) :
    decodeHost h w = .badAccess h ↔ badDescriptor h = true :=
  ⟨fun e => of_not_not fun hb => decodeHost_ne_badAccess hb w h e, fun hb => decodeHost_of_bad hb w⟩

theorem decodeHost_wf (h : BitVec 9) (w : Word) : (decodeHost h w).wf = true := by
  by_cases hb : badDescriptor h = true
  · rw [decodeHost_of_bad hb]; exact hb
  · rw [decodeHost, if_neg hb]
    split <;> rfl

/-- The write data chooses no row. -/
theorem decodeHost_mnemonic (h : BitVec 9) (w : Word) : (decodeHost h w).mnemonic = (decodeHost h 0).mnemonic := by
  by_cases hb : badDescriptor h = true
  · rw [decodeHost_of_bad hb, decodeHost_of_bad hb]
  · rw [decodeHost, decodeHost, if_neg hb, if_neg hb]
    split <;> rfl

/-- R76: H laid out as SIZE, then W with ADDR[5:2], then ADDR[1:0]. -/
def hostDescriptor (size : BitVec 2) (reg : BitVec 5) (low : BitVec 2) : BitVec 9 := size ++ reg ++ low

theorem exists_hostDescriptor (h : BitVec 9) : ∃ size reg low, h = hostDescriptor size reg low := by
  refine ⟨h.extractLsb' 7 2, h.extractLsb' 2 5, h.extractLsb' 0 2, ?_⟩
  have hhigh : h.extractLsb' 7 2 ++ h.extractLsb' 2 5 = h.extractLsb' 2 7 :=
    BitVec.extractLsb'_append_extractLsb'_eq_extractLsb' rfl
  rw [hostDescriptor, hhigh]
  exact (BitVec.extractLsb'_append_extractLsb' (w := 7) (len := 2)).symm

theorem badDescriptor_hostDescriptor (size : BitVec 2) (reg : BitVec 5) (low : BitVec 2) :
    badDescriptor (hostDescriptor size reg low) = (size != 0b10#2 || low != 0b00#2) := by
  have hsize : (hostDescriptor size reg low).extractLsb' 7 2 = size :=
    (BitVec.extractLsb'_append_eq_of_le (by decide)).trans BitVec.extractLsb'_append_eq_left
  have hlow : (hostDescriptor size reg low).extractLsb' 0 2 = low := BitVec.extractLsb'_append_eq_right
  rw [badDescriptor, hsize, hlow]

theorem hostDescriptor_and (size size' : BitVec 2) (reg reg' : BitVec 5) (low low' : BitVec 2) :
    hostDescriptor size reg low &&& hostDescriptor size' reg' low' =
      hostDescriptor (size &&& size') (reg &&& reg') (low &&& low') :=
  BitVec.and_append.trans (congrArg (· ++ _) BitVec.and_append)

/-- The rows of another SIZE look at SIZE alone. -/
theorem exists_row_of_size : ∀ size : BitVec 2, size ≠ 0b10#2 →
    (hostDescriptor (BitVec.allOnes 2) 0#5 0#2, hostDescriptor size 0#5 0#2, "BAD_ACCESS") ∈ hostRows := by decide

/-- The rows of another alignment look at SIZE and ADDR[1:0]. -/
theorem exists_row_of_low : ∀ low : BitVec 2, low ≠ 0#2 →
    (hostDescriptor (BitVec.allOnes 2) 0#5 (BitVec.allOnes 2), hostDescriptor 0b10#2 0#5 low, "BAD_ACCESS") ∈ hostRows := by decide

/-- R77: the register map of the aligned words. -/
theorem exists_row_of_word : ∀ reg : BitVec 5, ∃ r ∈ hostRows, hostDescriptor 0b10#2 reg 0#2 &&& r.1 = r.2.1 ∧
    r.2.2 = (decodeHost (hostDescriptor 0b10#2 reg 0#2) 0).mnemonic := by decide

/-- R77: every descriptor lies in the row of the instruction it decodes to. -/
theorem decodeHost_row (h : BitVec 9) (w : Word) : ∃ r ∈ hostRows, Row.Holds r h ∧ r.2.2 = (decodeHost h w).mnemonic := by
  obtain ⟨size, reg, low, rfl⟩ := exists_hostDescriptor h
  by_cases hsize : size = 0b10#2
  · by_cases hlow : low = 0#2
    · obtain ⟨r, hr, hv, hm⟩ := exists_row_of_word reg
      subst hsize hlow
      exact ⟨r, hr, hv, hm.trans (decodeHost_mnemonic _ w).symm⟩
    · refine ⟨_, exists_row_of_low low hlow, ?_, ?_⟩
      · simp only [Row.Holds, hostDescriptor_and, BitVec.and_allOnes, BitVec.and_zero, hsize]
      · rw [decodeHost_of_bad (by simp [badDescriptor_hostDescriptor, hlow])]; rfl
  · refine ⟨_, exists_row_of_size size hsize, ?_, ?_⟩
    · simp only [Row.Holds, hostDescriptor_and, BitVec.and_allOnes, BitVec.and_zero]
    · rw [decodeHost_of_bad (by simp [badDescriptor_hostDescriptor, hsize])]; rfl

/-- Settles O1: the rows exclude one another, and the decoder's row holds H. -/
theorem hostDescriptorMatchesExactlyOneRow : Obligations.HostDescriptorMatchesExactlyOneRow := by
  intro h w
  obtain ⟨r, hr, hv, hm⟩ := decodeHost_row h w
  exact ⟨hm ▸ matching_eq_singleton hostRows_disjoint hr hv, decodeHost_wf h w,
    (decodeHost_eq_badAccess_iff h w).trans (badDescriptor_iff h)⟩

/-! ### Format B -/

/-- R79: what decodes is one of the nine rows' values. -/
theorem decodeBus_instr {b : BitVec 5} {i : Instr} (h : decodeBus b = .instr i) :
    ∃ r ∈ busRows, b = r.2.1 ∧ r.2.2 = i.mnemonic ∧ i.isHost = false := by
  simp only [← BitVec.toNat_inj]
  unfold decodeBus at h
  split at h <;> cases h
  all_goals
    rename_i hb
    rw [hb]
    decide

/-- R80: what does not decode is rejected by name. -/
theorem decodeBus_cases (b : BitVec 5) :
    (∃ i, decodeBus b = .instr i) ∨ decodeBus b = .reject (.unissuedDescriptor b) := by
  unfold decodeBus
  split
  case h_10 => exact .inr rfl
  all_goals exact .inl ⟨_, rfl⟩

/-- A row of format B is one value, since its mask has all five bits. -/
theorem busRow_holds_iff {r : Row 5} (hr : r ∈ busRows) (b : BitVec 5) : r.Holds b ↔ b = r.2.1 := by
  have hmask : r.1 = BitVec.allOnes 5 := (by decide : ∀ r ∈ busRows, r.1 = BitVec.allOnes 5) r hr
  rw [Row.Holds, hmask, BitVec.and_allOnes]

theorem decodeBus_of_row {r : Row 5} (hr : r ∈ busRows) : decodeBus r.2.1 ≠ .reject (.unissuedDescriptor r.2.1) :=
  (by decide : ∀ r ∈ busRows, decodeBus r.2.1 ≠ .reject (.unissuedDescriptor r.2.1)) r hr

/-- A descriptor decodes exactly when it is the value of a row. -/
theorem decodeBus_instr_iff (b : BitVec 5) : (∃ i, decodeBus b = .instr i) ↔ ∃ r ∈ busRows, b = r.2.1 := by
  constructor
  · rintro ⟨i, hi⟩
    obtain ⟨r, hr, hb, -⟩ := decodeBus_instr hi
    exact ⟨r, hr, hb⟩
  · rintro ⟨r, hr, rfl⟩
    exact (decodeBus_cases r.2.1).resolve_right (decodeBus_of_row hr)

theorem decodeBus_reject_iff (b : BitVec 5) :
    decodeBus b = .reject (.unissuedDescriptor b) ↔ ¬ ∃ i, decodeBus b = .instr i := by
  refine ⟨?_, (decodeBus_cases b).resolve_left⟩
  rintro hr ⟨i, hi⟩
  rw [hr] at hi
  cases hi

theorem matching_busRows_eq_nil_iff (b : BitVec 5) : matching busRows b = [] ↔ ¬ ∃ r ∈ busRows, b = r.2.1 := by
  rw [matching_eq_nil_iff, not_exists]
  refine forall_congr' fun r => ?_
  rw [not_and]
  exact forall_congr' fun hr => not_congr (busRow_holds_iff hr b)

/-- Settles O2: decoding, the match of a row and the list of nine are each membership of `busRows`. -/
theorem busDescriptorsNineIssuedOthersRejected : Obligations.BusDescriptorsNineIssuedOthersRejected := by
  intro b
  refine ⟨fun i hi => ?_, ?_, ?_⟩
  · obtain ⟨r, hr, hb, hm, hhost⟩ := decodeBus_instr hi
    exact ⟨hm ▸ matching_eq_singleton busRows_disjoint hr ((busRow_holds_iff hr b).mpr hb), hhost⟩
  · rw [decodeBus_reject_iff, decodeBus_instr_iff, matching_busRows_eq_nil_iff]
  · rw [decodeBus_instr_iff]
    simp [busRows, ← BitVec.toNat_inj]

/-! ### Formats CMD and DEVHEAD -/

/-- R82: the two command bytes. -/
theorem decodeCommand_instr_iff (v : Byte) (i : Instr) :
    decodeCommand v = .instr i ↔ (v = 0x20 ∧ i = .cmdReadSectors) ∨ (v = 0x24 ∧ i = .cmdReadSectorsExt) := by
  constructor
  · intro h
    unfold decodeCommand at h
    split at h <;> cases h
    · exact .inl ⟨BitVec.eq_of_toNat_eq ‹_›, rfl⟩
    · exact .inr ⟨BitVec.eq_of_toNat_eq ‹_›, rfl⟩
  · rintro (⟨rfl, rfl⟩ | ⟨rfl, rfl⟩) <;> rfl

/-- R81, 0b111DLLLL as a number. -/
theorem devHead28_toNat (d : BitVec 1) (l : BitVec 4) : (devHead28 d l).toNat = 0xE0 + 16 * d.toNat + l.toNat := by
  revert d l; decide

/-- R81, 0b010D0000 as a number. -/
theorem devHead48_toNat (d : BitVec 1) : (devHead48 d).toNat = 0x40 + 16 * d.toNat := by
  revert d; decide

theorem eq_devHead28_of_high {v : Byte} (h : v.extractLsb' 5 3 = 0b111#3) :
    v = devHead28 (v.extractLsb' 4 1) (v.extractLsb' 0 4) := by
  have hv := v.isLt
  simp only [← BitVec.toNat_inj, devHead28_toNat, BitVec.extractLsb'_toNat, Nat.shiftRight_eq_div_pow,
    BitVec.toNat_ofNat] at h ⊢
  omega

theorem eq_devHead48_of_high {v : Byte} (h : v.extractLsb' 5 3 = 0b010#3) (hl : v.extractLsb' 0 4 = 0#4) :
    v = devHead48 (v.extractLsb' 4 1) := by
  have hv := v.isLt
  simp only [← BitVec.toNat_inj, devHead48_toNat, BitVec.extractLsb'_toNat, Nat.shiftRight_eq_div_pow,
    BitVec.toNat_ofNat] at h hl ⊢
  omega

theorem decodeDevHead_devHead28 (d : BitVec 1) (l : BitVec 4) :
    decodeDevHead (devHead28 d l) = .instr (.devheadLba28 d l) := by
  revert d l; decide

theorem decodeDevHead_devHead48 (d : BitVec 1) : decodeDevHead (devHead48 d) = .instr (.devheadLba48 d) := by
  revert d; decide

/-- R81: the drive/head decoder reads back the bytes the PSR writes, and no others. -/
theorem decodeDevHead_instr_iff (v : Byte) (i : Instr) :
    decodeDevHead v = .instr i ↔
      (∃ d l, v = devHead28 d l ∧ i = .devheadLba28 d l) ∨ ∃ d, v = devHead48 d ∧ i = .devheadLba48 d := by
  constructor
  · intro h
    unfold decodeDevHead at h
    split at h
    · next hv => cases h; exact .inl ⟨_, _, eq_devHead28_of_high hv, rfl⟩
    · split at h
      · next hv => cases h; exact .inr ⟨_, eq_devHead48_of_high hv.1 hv.2, rfl⟩
      · cases h
  · rintro (⟨d, l, rfl, rfl⟩ | ⟨d, rfl, rfl⟩)
    · exact decodeDevHead_devHead28 d l
    · exact decodeDevHead_devHead48 d

theorem decodeDevHead_lba28_iff (v : Byte) (d : BitVec 1) (l : BitVec 4) :
    decodeDevHead v = .instr (.devheadLba28 d l) ↔ v.toNat = 0xE0 + 16 * d.toNat + l.toNat := by
  rw [← devHead28_toNat, BitVec.toNat_inj, decodeDevHead_instr_iff]
  simp

theorem decodeDevHead_lba48_iff (v : Byte) (d : BitVec 1) :
    decodeDevHead v = .instr (.devheadLba48 d) ↔ v.toNat = 0x40 + 16 * d.toNat := by
  rw [← devHead48_toNat, BitVec.toNat_inj, decodeDevHead_instr_iff]
  simp

theorem decodeCommand_row {v : Byte} {i : Instr} (h : decodeCommand v = .instr i) :
    ∃ r ∈ deviceByteRows, Row.Holds r v ∧ r.2.2 = i.mnemonic := by
  obtain ⟨rfl, rfl⟩ | ⟨rfl, rfl⟩ := (decodeCommand_instr_iff v i).mp h
  · exact ⟨(0xFF, 0x20, "CMD_READ_SECTORS"), by decide, rfl, rfl⟩
  · exact ⟨(0xFF, 0x24, "CMD_READ_SECTORS_EXT"), by decide, rfl, rfl⟩

theorem devHead28_and_mask (d : BitVec 1) (l : BitVec 4) : devHead28 d l &&& 0xE0 = 0xE0 := by
  revert d l; decide

theorem devHead48_and_mask (d : BitVec 1) : devHead48 d &&& 0xEF = 0x40 := by
  revert d; decide

theorem decodeDevHead_row {v : Byte} {i : Instr} (h : decodeDevHead v = .instr i) :
    ∃ r ∈ deviceByteRows, Row.Holds r v ∧ r.2.2 = i.mnemonic := by
  obtain ⟨d, l, rfl, rfl⟩ | ⟨d, rfl, rfl⟩ := (decodeDevHead_instr_iff v i).mp h
  · exact ⟨(0xE0, 0xE0, "DEVHEAD_LBA28"), by decide, devHead28_and_mask d l, rfl⟩
  · exact ⟨(0xEF, 0x40, "DEVHEAD_LBA48"), by decide, devHead48_and_mask d, rfl⟩

/-- Settles O3: a decoded byte lies in its row, and the fields are read off the number it stands for. -/
theorem deviceBytesDecodeToTheirRows : Obligations.DeviceBytesDecodeToTheirRows := by
  intro v
  refine ⟨fun i hi => ?_, decodeDevHead_lba28_iff v, decodeDevHead_lba48_iff v, ?_, ?_⟩
  · obtain ⟨r, hr, hv, hm⟩ := hi.elim decodeCommand_row decodeDevHead_row
    exact hm ▸ matching_eq_singleton deviceByteRows_disjoint hr hv
  · simp [decodeCommand_instr_iff]
  · simp [decodeCommand_instr_iff]

end Sys2Proof.Machine
end

section
/-! SUPPORT. What the encoded forms do: the drive/head byte PROGRAM writes first (spec/30_encoding.md R81), and the turns of
the host's POLL (R87). -/

namespace Sys2Proof.Machine

/-! ### The first taskfile write -/

theorem ctrlModeBit_eq_false_iff (s : State) :
    ctrlModeBit s = false ↔ s.cfg.hasLba48 = false ∨ s.ctrlMode = false := by
  rw [ctrlModeBit, Bool.and_eq_false_iff]

theorem ctrlModeBit_eq_true_iff (s : State) : ctrlModeBit s = true ↔ s.cfg.hasLba48 = true ∧ s.ctrlMode = true := by
  rw [ctrlModeBit, Bool.and_eq_true]

theorem taskfile_of_mode28 {s : State} (hm : ctrlModeBit s = false) :
    taskfile s = list28 (BitVec.ofBool s.ctrlDrv) (requestLba s) s.count := by
  simp [taskfile, hm]

theorem taskfile_of_mode48 {s : State} (hm : ctrlModeBit s = true) :
    taskfile s = list48 (BitVec.ofBool s.ctrlDrv) (requestLba s) s.count := by
  simp [taskfile, hm]

/-- R23: `lba[27:24]` is in LBA_LO. -/
theorem requestLba_bits_27_24_toNat (s : State) :
    ((requestLba s).extractLsb' 24 4).toNat = s.lbaLo.toNat / 2 ^ 24 % 16 := by
  rw [requestLba, BitVec.extractLsb'_append_eq_of_add_le (by decide), BitVec.extractLsb'_toNat, Nat.shiftRight_eq_div_pow]

/-- R140: the first entry of the list is never its last. -/
theorem programWrite_first {s : State} (hk : s.seqK = 0) (o : BitVec 3) (v : Byte) :
    programWrite o v s = { devOut8 o v s with seqK := 1 } := by
  have hlen : s.seqK.toNat + 1 ≠ (taskfile s).length := by
    rw [taskfile_length, taskfileLength, hk]; split <;> decide
  rw [programWrite_more hlen, hk]; rfl

theorem programWrite_devHead {s : State} (hk : s.seqK = 0) (v : Byte) :
    programWrite 6 v s = { s with seqK := 1, history := s.history ++ [.devOut8 (s.cfg.devBase + 6) v] } :=
  programWrite_first hk 6 v

theorem exec_outDevhead_mode28 {s : State} (hp : s.seqState = .program) (hk : s.seqK = 0) (hm : ctrlModeBit s = false) :
    exec .outDevhead s =
      .next (programWrite 6 (devHead28 (BitVec.ofBool s.ctrlDrv) ((requestLba s).extractLsb' 24 4)) s) :=
  taskfileWrite_eq hp (by rw [taskfile_of_mode28 hm, hk]; rfl)

theorem exec_outDevhead_mode48 {s : State} (hp : s.seqState = .program) (hk : s.seqK = 0) (hm : ctrlModeBit s = true) :
    exec .outDevhead s = .next (programWrite 6 (devHead48 (BitVec.ofBool s.ctrlDrv)) s) :=
  taskfileWrite_eq hp (by rw [taskfile_of_mode48 hm, hk]; rfl)

theorem exec_devheadLba28 {s : State} (hp : s.seqState = .program) (hk : s.seqK = 0) (hm : ctrlModeBit s = false) :
    exec (.devheadLba28 (BitVec.ofBool s.ctrlDrv) ((requestLba s).extractLsb' 24 4)) s =
      .next (programWrite 6 (devHead28 (BitVec.ofBool s.ctrlDrv) ((requestLba s).extractLsb' 24 4)) s) :=
  if_pos ⟨hp, hk, hm, rfl, rfl⟩

theorem exec_devheadLba48 {s : State} (hp : s.seqState = .program) (hk : s.seqK = 0) (hm : ctrlModeBit s = true) :
    exec (.devheadLba48 (BitVec.ofBool s.ctrlDrv)) s = .next (programWrite 6 (devHead48 (BitVec.ofBool s.ctrlDrv)) s) :=
  if_pos ⟨hp, hk, hm, rfl⟩

/-- Settles O26: the fields are the drive and lba[27:24], so the row writes the first entry of its mode's list. -/
theorem driveHeadBytesWritten : Obligations.DriveHeadBytesWritten := by
  intro s d l hp hk hd
  obtain rfl : d = BitVec.ofBool s.ctrlDrv := BitVec.eq_of_toNat_eq (hd.trans (BitVec.toNat_ofBool _).symm)
  constructor
  · intro hm hl
    have hm := (ctrlModeBit_eq_false_iff s).mpr hm
    obtain rfl : l = (requestLba s).extractLsb' 24 4 :=
      BitVec.eq_of_toNat_eq (hl.trans (requestLba_bits_27_24_toNat s).symm)
    have he := exec_devheadLba28 hp hk hm
    exact ⟨_, devHead28_toNat _ _, he.trans (congrArg _ (programWrite_devHead hk _)),
      (exec_outDevhead_mode28 hp hk hm).trans he.symm⟩
  · intro h48 hmode
    have hm := (ctrlModeBit_eq_true_iff s).mpr ⟨h48, hmode⟩
    have he := exec_devheadLba48 hp hk hm
    exact ⟨_, devHead48_toNat _, he.trans (congrArg _ (programWrite_devHead hk _)),
      (exec_outDevhead_mode48 hp hk hm).trans he.symm⟩

/-! ### The host's POLL -/

theorem step_poll {s : State} {h : BitVec 9} {mask value : Word} {rest : List Turn} (hc : s.cfg.ok = true)
    (hp : s.pending = .poll h mask value :: rest) :
    step s = .next (pollRead h mask value { s with pending := rest }) := by
  rw [step_eq hc, fetch, hp]; rfl

theorem step_pollTest {s : State} {h : BitVec 9} {mask value : Word} {rest : List Turn} (hc : s.cfg.ok = true)
    (hp : s.pending = .pollTest h mask value :: rest) :
    step s = .next (pollBranch h mask value { s with pending := rest }) := by
  rw [step_eq hc, fetch, hp]; rfl

theorem pollMet_iff {mask value x : Word} {s : State} (hx : s.responses.getLast? = some (.okayRead x)) :
    pollMet mask value s = true ↔ x &&& mask = value := by
  rw [pollMet, hx]; exact beq_iff_eq

theorem pollBranch_eq (h : BitVec 9) {mask value x : Word} {s : State} (hx : s.responses.getLast? = some (.okayRead x)) :
    pollBranch h mask value s = { s with
      pending := if x &&& mask = value then s.pending else .sequencer :: .poll h mask value :: s.pending } := by
  rw [pollBranch]
  simp only [pollMet_iff hx]
  split <;> rfl

/-- Settles O45, by the turn of each kind: the read with its test, and the branch of the test. -/
theorem pollLoopsUntilValue : Obligations.PollLoopsUntilValue := by
  intro s h mask value x rest hc
  refine ⟨fun hp => step_poll hc hp, fun hp hx => ?_⟩
  rw [step_pollTest hc hp, pollBranch_eq h (s := { s with pending := rest }) hx]

end Sys2Proof.Machine
end

section
/-! SUPPORT. The host interface (spec/40_host_interface.md): the descriptor of each transaction, what the words a read answers
are made of, what a write stores and when it is ignored, and the read of a register after its write (R125). -/

namespace Sys2Proof.Machine

/-! ### The words the reads answer -/

/-- R99: the bits of the CTRL word. -/
theorem ctrlWord_bits (s : State) :
    (ctrlWord s).getLsbD 0 = false ∧ (ctrlWord s).getLsbD 1 = ctrlModeBit s ∧ (ctrlWord s).getLsbD 2 = s.ctrlDrv := by
  unfold ctrlWord
  generalize s.ctrlDrv = drv
  generalize ctrlModeBit s = mode
  revert drv mode; decide

theorem ctrlWord_reserved (s : State) {k : Nat} (hk : 3 ≤ k) : (ctrlWord s).getLsbD k = false := by
  rw [ctrlWord, BitVec.getLsbD_setWidth, BitVec.getLsbD_of_ge _ k hk, Bool.and_false]

/-- R101: the fields of the STATUS word as a number. -/
theorem statusWord_toNat (s : State) :
    (statusWord s).toNat =
      s.statusBusy.toNat + 2 * s.statusDone.toNat + 16 * s.seqState.code.toNat + 256 * s.lastStatus.toNat := by
  have hst := s.lastStatus.isLt
  have hcode := s.seqState.code.isLt
  have hdone := s.statusDone.toNat_le
  have hbusy := s.statusBusy.toNat_le
  simp only [statusWord, BitVec.toNat_setWidth, BitVec.toNat_append, BitVec.toNat_ofBool, BitVec.toNat_ofNat]
  rw [← Nat.shiftLeft_add_eq_or_of_lt (by omega), ← Nat.shiftLeft_add_eq_or_of_lt (by omega),
    ← Nat.shiftLeft_add_eq_or_of_lt (by omega), ← Nat.shiftLeft_add_eq_or_of_lt (by omega)]
  simp only [Nat.shiftLeft_eq]
  omega

theorem statusWord_busy (s : State) : (statusWord s).getLsbD 0 = s.statusBusy := by
  simp only [statusWord, BitVec.getLsbD_setWidth, BitVec.getLsbD_append, BitVec.getLsbD_ofBool]
  simp

theorem statusWord_done (s : State) : (statusWord s).getLsbD 1 = s.statusDone := by
  simp only [statusWord, BitVec.getLsbD_setWidth, BitVec.getLsbD_append, BitVec.getLsbD_ofBool]
  simp

/-- R38, R101: bits 7:4 are the code of `seq.state`. -/
theorem statusWord_state {s : State} {p : SeqState} (h : s.seqState = p) :
    (statusWord s).toNat / 16 % 16 = p.code.toNat := by
  have hcode := p.code.isLt
  have hdone := s.statusDone.toNat_le
  have hbusy := s.statusBusy.toNat_le
  rw [statusWord_toNat, h]
  omega

/-- R101: bits 3:2 are 0, and the last device status byte stands above the code. -/
theorem statusWord_zero_and_lastStatus (s : State) :
    (statusWord s).toNat / 4 % 4 = 0 ∧ (statusWord s).toNat / 256 = s.lastStatus.toNat := by
  have hcode := s.seqState.code.isLt
  have hdone := s.statusDone.toNat_le
  have hbusy := s.statusBusy.toNat_le
  rw [statusWord_toNat]
  omega

/-- R119: SECTORS_DONE below WORD_INDEX. -/
theorem progressWord_toNat (s : State) : (progressWord s).toNat = s.seqS.toNat + 256 * s.seqI.toNat := by
  have hs := s.seqS.isLt
  have hi := s.seqI.isLt
  rw [progressWord, BitVec.toNat_setWidth, BitVec.toNat_append, ← Nat.shiftLeft_add_eq_or_of_lt hs, Nat.shiftLeft_eq]
  omega

/-! ### RETCODE -/

theorem resultClassField_toNat (r : Word) : (resultClassField r).toNat = r.toNat % 16 := by
  simp [resultClassField]

theorem resultErrRaw_toNat (r : Word) : (resultErrRaw r).toNat = r.toNat / 256 % 256 := by
  simp [resultErrRaw, Nat.shiftRight_eq_div_pow]

theorem retcodeWord_success {r : Word} (h : r.toNat % 16 = 0) : retcodeWord r = 0 := by
  rw [retcodeWord, resultClassField_toNat, h]; rfl

theorem retcodeWord_invalidParameters {r : Word} (h : r.toNat % 16 = 1) : retcodeWord r = 0xFFFFFFFF := by
  rw [retcodeWord, resultClassField_toNat, h]; rfl

theorem retcodeWord_deviceTimeout {r : Word} (h : r.toNat % 16 = 2) : retcodeWord r = 0xFFFFFFFE := by
  rw [retcodeWord, resultClassField_toNat, h]; rfl

theorem retcodeWord_deviceError_toNat {r : Word} (h : r.toNat % 16 = 3) :
    (retcodeWord r).toNat = 256 + r.toNat / 256 % 256 := by
  have he : (resultErrRaw r).toNat < 2 ^ 8 := (resultErrRaw r).isLt
  rw [retcodeWord, resultClassField_toNat, h, ← resultErrRaw_toNat]
  simp only [BitVec.toNat_or, BitVec.toNat_setWidth]
  rw [Nat.mod_eq_of_lt (a := (resultErrRaw r).toNat) (by omega)]
  exact (Nat.two_pow_add_eq_or_of_lt he 1).symm

/-- NONE, and the classes that are never written. -/
theorem retcodeWord_of_four_le {r : Word} (h : 4 ≤ r.toNat % 16) : retcodeWord r = 0x80000000 := by
  simp only [retcodeWord, resultClassField_toNat]
  split
  case h_5 => rfl
  all_goals omega

/-- R117: zero is SUCCESS. -/
theorem retcodeWord_eq_zero_iff (r : Word) : retcodeWord r = 0 ↔ r.toNat % 16 = 0 := by
  refine ⟨fun hz => ?_, retcodeWord_success⟩
  obtain h | h | h | h | h : r.toNat % 16 = 0 ∨ r.toNat % 16 = 1 ∨ r.toNat % 16 = 2 ∨ r.toNat % 16 = 3 ∨
    4 ≤ r.toNat % 16 := by omega
  · exact h
  · exact absurd ((retcodeWord_invalidParameters h).symm.trans hz) (by decide)
  · exact absurd ((retcodeWord_deviceTimeout h).symm.trans hz) (by decide)
  · have hn := retcodeWord_deviceError_toNat h
    have h0 : (0 : Word).toNat = 0 := rfl
    rw [hz] at hn
    omega
  · exact absurd ((retcodeWord_of_four_le h).symm.trans hz) (by decide)

/-- R29: the classes RESULT holds. -/
theorem Inv.result_class_cases {s : State} (h : Inv s) : s.result.toNat % 16 ≤ 3 ∨ s.result.toNat % 16 = 0xF := by
  cases hd : s.statusDone with
  | false => rw [h.result_none hd]; exact .inr rfl
  | true => exact .inl (resultClassField_toNat s.result ▸ (h.result_class hd).1)

/-! ### Reads -/

/-- Settles O7: the bits of the CTRL word. -/
theorem rdCtrlReturnsModeAndDrive : Obligations.RdCtrlReturnsModeAndDrive := by
  intro s w
  obtain ⟨hstart, hmode, hdrv⟩ := ctrlWord_bits s
  exact ⟨rfl, ctrlWord s, rfl, hstart, by rw [hmode, ctrlModeBit_eq_true_iff], hdrv, fun k => ctrlWord_reserved s⟩

/-- Settles O8: the fields of the STATUS word; R37 keeps BUSY and DONE apart. -/
theorem rdStatusReturnsFlagsStateAndLastStatus : Obligations.RdStatusReturnsFlagsStateAndLastStatus := by
  intro s w
  obtain ⟨hzero, hlast⟩ := statusWord_zero_and_lastStatus s
  refine ⟨rfl, statusWord s, rfl, statusWord_busy s, statusWord_done s, hzero, hlast, statusWord_state, statusWord_state,
    statusWord_state, statusWord_state, statusWord_state, statusWord_state, statusWord_state, statusWord_state,
    statusWord_state, fun hi => ?_⟩
  rw [statusWord_busy, statusWord_done]
  rintro ⟨hbusy, hdone⟩
  exact Bool.false_ne_true ((hi.busy_not_done hbusy).symm.trans hdone)

/-- Settles O9: each register is zero-extended, and DEST_ADDR has its `MEM_ADDR_WIDTH` bits. -/
theorem requestRegisterReads : Obligations.RequestRegisterReads := by
  intro s w
  exact ⟨⟨rfl, rfl⟩,
    ⟨rfl, s.lbaHi.setWidth 32, BitVec.toNat_setWidth_of_le (by decide), rfl⟩,
    ⟨rfl, s.count.setWidth 32, BitVec.toNat_setWidth_of_le (by decide), rfl⟩,
    ⟨rfl, destAddrReg s, lowBits_toNat _ _, rfl⟩,
    ⟨rfl, rfl⟩,
    ⟨rfl, rfl, Inv.timeout_pos⟩⟩

/-- Settles O10: RESULT is answered as held, and the invariant knows it before a `Finish`. -/
theorem rdResultReturnsResult : Obligations.RdResultReturnsResult :=
  fun _ _ => ⟨rfl, rfl, Inv.result_none⟩

/-- Settles O11, class by class. -/
theorem rdRetcodeComputesFromResult : Obligations.RdRetcodeComputesFromResult := by
  intro s w
  refine ⟨rfl, retcodeWord s.result, rfl, retcodeWord_success, fun h => ?_, fun h => ?_, fun h => ?_, fun h => ?_,
    retcodeWord_eq_zero_iff s.result, Inv.result_class_cases⟩
  · rw [retcodeWord_invalidParameters h]; decide
  · rw [retcodeWord_deviceTimeout h]; decide
  · have hn := retcodeWord_deviceError_toNat h
    rw [BitVec.toInt_eq_toNat_of_lt (by omega), hn, Nat.cast_add]; rfl
  · rw [retcodeWord_of_four_le h]; decide

/-- Settles O12: `seq.s`, `seq.i` and `seq.n`. -/
theorem progressAndPollCountReads : Obligations.ProgressAndPollCountReads :=
  fun s _ => ⟨⟨rfl, progressWord s, progressWord_toNat s, rfl⟩, rfl, rfl⟩

/-! ### The reserved offsets -/

theorem reservedOffset_cases (n : BitVec 2) : n = 0 ∨ n = 1 ∨ n = 2 ∨ n = 3 := by
  revert n; decide

/-- R123: the reads of offsets 0x30, 0x34, 0x38, 0x3C. -/
theorem decodeHost_rsvdRd (n : BitVec 2) (w : Word) : decodeHost (BitVec.ofNat 9 (0x130 + 4 * n.toNat)) w = .rsvdRd n := by
  obtain rfl | rfl | rfl | rfl := reservedOffset_cases n <;> rfl

/-- R124: their writes. -/
theorem decodeHost_rsvdWr (n : BitVec 2) (w : Word) :
    decodeHost (BitVec.ofNat 9 (0x170 + 4 * n.toNat)) w = .rsvdWr n w := by
  obtain rfl | rfl | rfl | rfl := reservedOffset_cases n <;> rfl

/-- Settles O13, by the four values of ADDR[3:2]. -/
theorem reservedOffsetsReadZero : Obligations.ReservedOffsetsReadZero :=
  fun _ w n => ⟨decodeHost_rsvdRd n w, rfl⟩

/-! ### Writes -/

/-- R97: of the whole state, an ignored write changes the responses alone. -/
theorem csrWriteIgnored_eq (s : State) : csrWriteIgnored s = { s with responses := s.responses ++ [.okay] } := rfl

/-- R98: while BUSY = 1 a writable register ignores a write. -/
theorem csrWrite_of_busy {s : State} (hb : s.statusBusy = true) (store : State → State) :
    csrWrite store s = csrWriteIgnored s :=
  congrArg (respond .okay) (if_pos hb)

/-- While BUSY = 0 a write to a writable register is accepted. -/
theorem csrWrite_of_not_busy {s : State} (hb : s.statusBusy = false) (store : State → State) :
    csrWrite store s = respond .okay (store s) :=
  congrArg (respond .okay) (if_neg (by rw [hb]; exact Bool.false_ne_true))

/-- R98: while BUSY = 1 every write, of a writable register or not, only answers OKAY. -/
theorem exec_write_of_busy {i : Instr} {s : State} (hi : i.isWrite = true) (hb : s.statusBusy = true) :
    exec i s = .next { s with responses := s.responses ++ [.okay] } := by
  rw [← csrWriteIgnored_eq]
  cases i with
  | wrStatus | wrResult | wrRetcode | wrProgress | wrPollCount | rsvdWr => rfl
  | wrCtrl | wrLbaLo | wrLbaHi | wrCount | wrDestAddr | wrDestLen | wrTimeout =>
    exact congrArg Host.Outcome.next (csrWrite_of_busy hb _)
  | _ => exact absurd hi Bool.false_ne_true

/-- An accepted write leaves what its store leaves, and the response. -/
theorem exec_write_of_not_busy {i : Instr} {s t : State} {store : State → State} (hi : exec i s = .next (csrWrite store s))
    (ht : respond .okay (store s) = t) (hb : s.statusBusy = false) : exec i s = .next t :=
  hi.trans (congrArg Host.Outcome.next ((csrWrite_of_not_busy hb store).trans ht))

/-- R100: a write of CTRL with START = 0 stores MODE and DRV alone. -/
theorem storeCtrl_of_not_start {w : Word} (hw : wdataStart w = false) (s : State) :
    storeCtrl w s = { s with ctrlMode := wdataMode s.cfg w, ctrlDrv := wdataDrv w } := by
  simp only [storeCtrl, hw, Bool.false_eq_true, if_false]

/-- Settles O15: ignored while busy; otherwise the store of CTRL, with `Start` or without. -/
theorem wrCtrlStoresAndStarts : Obligations.WrCtrlStoresAndStarts := by
  intro s w
  refine ⟨rfl, exec_write_of_busy rfl, fun hb hw => ?_, fun hb hw => exec_wrCtrl_start hb hw⟩
  exact exec_write_of_not_busy rfl (congrArg (respond .okay) (storeCtrl_of_not_start hw s)) hb

/-- Settles O16: the five are writes, ignored while busy; otherwise each stores the low bits its register has. -/
theorem requestRegisterWrites : Obligations.RequestRegisterWrites := by
  intro s w
  refine ⟨⟨rfl, rfl, rfl, rfl, rfl⟩, fun hb i hi => exec_write_of_busy ?_ hb, fun hb => ?_⟩
  · revert i
    simp only [List.forall_mem_cons]
    exact ⟨rfl, rfl, rfl, rfl, rfl, nofun⟩
  · exact ⟨exec_write_of_not_busy rfl rfl hb,
      ⟨_, BitVec.extractLsb'_toNat .., exec_write_of_not_busy rfl rfl hb⟩,
      ⟨_, BitVec.extractLsb'_toNat .., exec_write_of_not_busy rfl rfl hb⟩,
      ⟨_, lowBits_toNat s.cfg.memAddrWidth w, exec_write_of_not_busy rfl rfl hb⟩,
      exec_write_of_not_busy rfl rfl hb⟩

/-- Settles O17: the store is `legalTimeout`, which is 1 for 0 and WDATA otherwise. -/
theorem wrTimeoutStoresLegalValue : Obligations.WrTimeoutStoresLegalValue := by
  intro s w
  have hstore : s.statusBusy = false →
      exec (.wrTimeout w) s = .next { s with timeout := legalTimeout w, responses := s.responses ++ [.okay] } :=
    exec_write_of_not_busy rfl rfl
  refine ⟨rfl, exec_write_of_busy rfl, fun hb hw => ?_, fun hb hw => ?_⟩
  · rw [hstore hb, legalTimeout, if_pos hw]
  · rw [hstore hb, legalTimeout, if_neg hw]

/-- Settles O18: each of the six is a `csrWriteIgnored`. -/
theorem readOnlyWritesIgnored : Obligations.ReadOnlyWritesIgnored := by
  intro s w n
  refine ⟨⟨rfl, rfl, rfl, rfl, rfl, decodeHost_rsvdWr n w⟩, ?_⟩
  simp only [List.forall_mem_cons]
  exact ⟨rfl, rfl, rfl, rfl, rfl, rfl, nofun⟩

/-- Settles O19: such an H is one `badDescriptor` names. -/
theorem badAccessAnswersSlverr : Obligations.BadAccessAnswersSlverr :=
  fun _ h w hbad => ⟨decodeHost_of_bad ((badDescriptor_iff h).mpr hbad) w, rfl⟩

/-! ### While BUSY = 1 -/

/-- A host transaction is a read, a write or an illegal access. -/
theorem isHost_cases {i : Instr} (hi : i.isHost = true) :
    (i.isRead = true ∧ i.isWrite = false) ∨ i.isWrite = true ∨ ∃ h, i = .badAccess h := by
  cases i with
  | rdCtrl | rdStatus | rdLbaLo | rdLbaHi | rdCount | rdDestAddr | rdDestLen | rdTimeout | rdResult | rdRetcode
  | rdProgress | rdPollCount | rsvdRd => exact .inl ⟨rfl, rfl⟩
  | wrCtrl | wrStatus | wrLbaLo | wrLbaHi | wrCount | wrDestAddr | wrDestLen | wrTimeout | wrResult | wrRetcode
  | wrProgress | wrPollCount | rsvdWr => exact .inr (.inl rfl)
  | badAccess h => exact .inr (.inr ⟨h, rfl⟩)
  | _ => exact absurd hi Bool.false_ne_true

/-- Settles O20: a read answers, a write is ignored, and an illegal access is recorded. -/
theorem hostTransactionsWhileBusyAlterNothing : Obligations.HostTransactionsWhileBusyAlterNothing := by
  intro i s hi hb
  obtain ⟨hread, hwrite⟩ | hwrite | ⟨h, rfl⟩ := isHost_cases hi
  · obtain ⟨v, hv⟩ := readsHaveNoSideEffect i s hread
    exact ⟨.okayRead v, [], by rw [hv, List.append_nil], nofun, by simp [hwrite]⟩
  · exact ⟨.okay, [], by rw [exec_write_of_busy hwrite hb, List.append_nil], nofun, fun _ => ⟨rfl, rfl⟩⟩
  · exact ⟨.slverr, [.hostAccessFault h], rfl, by simp [Event.isBus], nofun⟩

/-! ### A read after a write -/

/-- The read of `reg` after an accepted write answers what the write's store left in it. -/
theorem read_after_write (reg : State → Word) {i j : Instr} {s t : State} {store : State → State} {v : Word}
    (hw : exec i s = .next (csrWrite store s)) (hr : exec j t = .next (csrRead (reg t) t))
    (hv : reg (respond .okay (store s)) = v) (hb : s.statusBusy = false) (h : exec i s = .next t) :
    ∃ u, exec j t = .next u ∧ u.responses.getLast? = some (.okayRead v) := by
  obtain rfl : respond .okay (store s) = t := Host.Outcome.next.inj ((exec_write_of_not_busy hw rfl hb).symm.trans h)
  subst hv
  exact ⟨_, hr, List.getLast?_concat⟩

/-- R23, R24: the low bits of a word, zero-extended, are the word under their mask. -/
theorem zext_low_eq_and (n : Nat) (w : Word) :
    (w.extractLsb' 0 n).setWidth 32 = w &&& BitVec.ofNat 32 (2 ^ n - 1) := by
  refine BitVec.eq_of_getLsbD_eq fun k hk => ?_
  simp only [BitVec.getLsbD_setWidth, BitVec.getLsbD_extractLsb', BitVec.getLsbD_and, BitVec.getLsbD_ofNat,
    Nat.testBit_two_pow_sub_one, hk, decide_true, Bool.true_and, Nat.zero_add, Bool.and_comm]

@[simp] theorem storeCtrl_ctrlMode (w : Word) (s : State) : (storeCtrl w s).ctrlMode = wdataMode s.cfg w := by
  unfold storeCtrl; simp only; split <;> rfl

@[simp] theorem storeCtrl_ctrlDrv (w : Word) (s : State) : (storeCtrl w s).ctrlDrv = wdataDrv w := by
  unfold storeCtrl; simp only; split <;> rfl

/-- R78, R99: the bits of CTRL that are read back, MODE only with `HAS_LBA48`, are among the low three. -/
theorem ctrlMask_getLsbD_of_three_le (b : Bool) {k : Nat} (hk : 3 ≤ k) :
    (if b then 0x6#32 else 0x4#32).getLsbD k = false := by
  have hlt : (if b then 0x6#32 else 0x4#32).toNat < 2 ^ 3 := by cases b <;> decide
  exact Nat.testBit_lt_two_pow (hlt.trans_le (Nat.pow_le_pow_right (by decide) hk))

/-- R20, R99, R100: of a CTRL write, bit 2 and, with `HAS_LBA48`, bit 1 are read back. -/
theorem ctrlWord_storeCtrl (w : Word) (s : State) :
    ctrlWord (respond .okay (storeCtrl w s)) = w &&& (if s.cfg.hasLba48 then 0x6#32 else 0x4#32) := by
  obtain ⟨hstart, hmode, hdrv⟩ := ctrlWord_bits (respond .okay (storeCtrl w s))
  refine BitVec.eq_of_getLsbD_eq fun k _ => ?_
  rw [BitVec.getLsbD_and]
  match k with
  | 0 => rw [hstart]; cases s.cfg.hasLba48 <;> simp
  | 1 => rw [hmode]; cases h : s.cfg.hasLba48 <;> simp [ctrlModeBit, wdataMode, h]
  | 2 => rw [hdrv]; cases s.cfg.hasLba48 <;> simp [wdataDrv]
  | k + 3 =>
    have hk : 3 ≤ k + 3 := Nat.le_add_left 3 k
    rw [ctrlWord_reserved _ hk, ctrlMask_getLsbD_of_three_le _ hk, Bool.and_false]

/-- Settles O21, register by register. -/
theorem readReturnsLastAcceptedWrite : Obligations.ReadReturnsLastAcceptedWrite := by
  intro s t w hb
  refine ⟨read_after_write State.lbaLo rfl rfl rfl hb,
    read_after_write (fun s => s.lbaHi.setWidth 32) rfl rfl (zext_low_eq_and 16 w) hb,
    read_after_write (fun s => s.count.setWidth 32) rfl rfl (zext_low_eq_and 8 w) hb, fun h => ?_,
    read_after_write State.destLen rfl rfl rfl hb, read_after_write State.timeout rfl rfl rfl hb,
    read_after_write ctrlWord rfl rfl (ctrlWord_storeCtrl w s) hb⟩
  obtain ⟨u, hu, hlast⟩ := read_after_write destAddrReg (j := .rdDestAddr) rfl rfl rfl hb h
  refine ⟨u, _, hu, hlast, ?_⟩
  simp [destAddrReg, lowBits_toNat]

end Sys2Proof.Machine
end

section
/-! SUPPORT. What a move of the sequencer keeps (spec/41_sequencer.md section 4): the request, the invariant, the destination
region; and how far each move brings an operation towards its end (R150). -/

namespace Sys2Proof.Machine

/-! ### The request and the destination region -/

/-- R98: the sequencer never writes a request register. -/
theorem SequencerStep.sameRequest {s t : State} (h : SequencerStep s t) : SameRequest s t := by
  cases h.split_case <;> exact ⟨rfl, rfl, rfl, rfl, rfl, rfl, rfl, rfl⟩

theorem SequencerStep.pending {s t : State} (h : SequencerStep s t) : t.pending = s.pending := by
  cases h.split_case <;> rfl

section
variable {s t : State} (hc : t.cfg = s.cfg) (hr : SameRequest s t)
include hc hr

theorem SameRequest.validationDetail_eq : validationDetail t = validationDetail s :=
  validationDetail_congr hc hr.mode hr.lbaLo hr.lbaHi hr.count hr.destAddr hr.destLen

theorem SameRequest.destAddrReg_eq : destAddrReg t = destAddrReg s := by
  rw [destAddrReg, hc, hr.destAddr, ← destAddrReg]

theorem SameRequest.taskfileLength_eq : taskfileLength t = taskfileLength s := by
  rw [taskfileLength, ctrlModeBit, hc, hr.mode]; rfl

theorem SameRequest.destinationAdmitted (h : DestinationAdmitted s) : DestinationAdmitted t := by
  intro a ha
  rw [inDestination, requestBytes, hr.destAddrReg_eq hc, hr.count] at ha
  rw [hc]
  exact h a ha

end

/-- R176: both bytes of the present word lie in the destination region. -/
theorem inDestination_transferAddr {s : State} (h : s.seqS.toNat < s.count.toNat) :
    inDestination s (transferAddr s) ∧ inDestination s (transferAddr s + 1) := by
  have hi := s.seqI.isLt
  simp only [inDestination, transferAddr, requestBytes]
  omega

/-- R176: every byte of a validated request's destination has an address that exists. -/
theorem addressExists_of_inDestination {s : State} {a : Nat} (hv : validationDetail s = 0) (ha : inDestination s a) :
    addressExists s.cfg a = true :=
  decide_eq_true (ha.2.trans_le (dest_fits_of_valid hv))

/-! ### The position in each state -/

section
variable {s : State}

theorem positionOk_waitNbsy_iff (h : s.seqState = .waitNbsy) : positionOk s ↔ s.seqN.toNat < s.timeout.toNat := by
  simp only [positionOk, h]

theorem positionOk_program_iff (h : s.seqState = .program) : positionOk s ↔ s.seqK.toNat < taskfileLength s := by
  simp only [positionOk, h, taskfile_length]

theorem positionOk_settle_iff (h : s.seqState = .settle) :
    positionOk s ↔ s.seqJ.toNat < s.cfg.settleReads.toNat := by
  simp only [positionOk, h]

theorem positionOk_waitDrq_iff (h : s.seqState = .waitDrq) :
    positionOk s ↔ s.seqN.toNat < s.timeout.toNat ∧ s.seqI = 0 ∧ s.seqS.toNat < s.count.toNat := by
  simp only [positionOk, h]

theorem positionOk_transfer_iff (h : s.seqState = .transfer) :
    positionOk s ↔ bsy s.lastStatus = false ∧ err s.lastStatus = false ∧ drq s.lastStatus = true ∧
      s.seqS.toNat < s.count.toNat := by
  simp only [positionOk, h]

end

theorem taskfileLength_bounds (s : State) : 0 < taskfileLength s ∧ taskfileLength s ≤ 9 := by
  unfold taskfileLength; split <;> decide

/-- R162: a settle read that is not the last leaves one to do. -/
theorem settle_succ_lt {j r : Byte} (h : j.toNat < r.toNat) (hne : j + 1 ≠ r) :
    (j + 1).toNat = j.toNat + 1 ∧ j.toNat + 1 < r.toNat := by
  have hr := r.isLt
  have hsucc : (j + 1).toNat = j.toNat + 1 := byte_succ_toNat (by omega)
  have hne' : (j + 1).toNat ≠ r.toNat := fun he => hne (BitVec.eq_of_toNat_eq he)
  omega

/-- R176: a sector that is not the last leaves one to do. -/
theorem sector_succ_lt {n c : Byte} (h : n.toNat < c.toNat) (hne : n.toNat + 1 ≠ c.toNat) :
    (n + 1).toNat = n.toNat + 1 ∧ n.toNat + 1 < c.toNat := by
  have hc := c.isLt
  exact ⟨byte_succ_toNat (by omega), by omega⟩

/-! ### The invariant -/

/-- R39, R137: where the first data wait begins, no word is transferred and there is a sector to wait for. -/
theorem Inv.firstSector {s : State} (hi : Inv s) (hb : s.seqState.beforeData = true)
    (hv : s.seqState.afterValidate = true) : s.seqS = 0 ∧ s.seqI = 0 ∧ s.seqS.toNat < s.count.toNat := by
  obtain ⟨hs, hw⟩ := hi.no_data_yet hb
  exact ⟨hs, hw, by rw [hs]; exact count_pos_of_valid (hi.request_valid hv)⟩

/-- R40: each move leaves the counter of the state it enters inside its range. -/
theorem SequencerStep.position {s t : State} (hstep : SequencerStep s t) (hi : Inv s) : positionOk t := by
  have htimeout := word_pos hi.timeout_pos
  have hpos := hi.position
  cases hstep.split_case with
  | idle | stuck => exact hpos
  | validateFail | nbsyTimeout | drqTimeout | readErr | transferLast => exact trivial
  | validatePass => exact htimeout
  | nbsyReady => exact (positionOk_program_iff rfl).mpr (taskfileLength_bounds s).1
  | nbsyStay h b n =>
    refine (positionOk_waitNbsy_iff ?_).mpr ?_
    · exact h
    · exact (word_succ_toNat (Nat.lt_of_succ_lt n)).trans_lt n
  | programMore h o v e k =>
    refine (positionOk_program_iff ?_).mpr ?_
    · exact h
    · have hk := (positionOk_program_iff h).mp hpos
      have hlen := (taskfileLength_bounds s).2
      exact (index_succ_toNat (by omega)).trans_lt (by omega : _ < taskfileLength s)
  | programLast => exact trivial
  | issueSettle h r => exact Nat.pos_of_ne_zero fun hz => r (BitVec.eq_of_toNat_eq hz)
  | settleMore h j =>
    refine (positionOk_settle_iff ?_).mpr ?_
    · exact h
    · obtain ⟨hsucc, hlt⟩ := settle_succ_lt ((positionOk_settle_iff h).mp hpos) j
      exact hsucc.trans_lt hlt
  | issueWait h | settleLast h =>
    obtain ⟨-, hfirst⟩ := hi.firstSector (by rw [h]; rfl) (by rw [h]; rfl)
    exact ⟨htimeout, hfirst⟩
  | drqStay h b n =>
    obtain ⟨-, hsector⟩ := (positionOk_waitDrq_iff h).mp hpos
    refine (positionOk_waitDrq_iff ?_).mpr ⟨?_, hsector⟩
    · exact h
    · exact (word_succ_toNat (Nat.lt_of_succ_lt n)).trans_lt n
  | drqError h b e =>
    obtain ⟨-, hsector⟩ := (positionOk_waitDrq_iff h).mp hpos
    exact ⟨b, e, hsector⟩
  | drqReady h b e q =>
    obtain ⟨-, -, hsector⟩ := (positionOk_waitDrq_iff h).mp hpos
    exact ⟨b, e, q, hsector⟩
  | transferMore h =>
    refine (positionOk_transfer_iff ?_).mpr ?_
    · exact h
    · exact (positionOk_transfer_iff h).mp hpos
  | transferSector h x a i c =>
    obtain ⟨-, -, -, hs⟩ := (positionOk_transfer_iff h).mp hpos
    obtain ⟨hsucc, hlt⟩ := sector_succ_lt hs c
    exact ⟨htimeout, rfl, hsucc.trans_lt hlt⟩

/-- R38: a state past VALIDATE is entered from such a state or by a request that passed the checks. -/
theorem SequencerStep.request_checked {s t : State} (hstep : SequencerStep s t)
    (ht : t.seqState.afterValidate = true) : s.seqState.afterValidate = true ∨ validationDetail s = 0 := by
  cases hstep.split_case with
  | idle | stuck | nbsyStay | programMore | settleMore | drqStay | transferMore => exact .inl ht
  | validateFail | nbsyTimeout | drqTimeout | readErr | transferLast => cases ht
  | validatePass h d => exact .inr d
  | nbsyReady h | programLast h | issueSettle h | issueWait h | settleLast h | drqError h | drqReady h
  | transferSector h => exact .inl (by rw [h]; rfl)

/-- R39: before the first data wait no move touches `seq.s` and `seq.i`. -/
theorem SequencerStep.beforeData {s t : State} (hstep : SequencerStep s t) (ht : t.seqState.beforeData = true) :
    s.seqState.beforeData = true ∧ t.seqS = s.seqS ∧ t.seqI = s.seqI := by
  cases hstep.split_case with
  | idle | stuck | nbsyStay | programMore | settleMore | drqStay => exact ⟨ht, rfl, rfl⟩
  | transferMore h =>
    have hs : s.seqState.beforeData = true := ht
    rw [h] at hs
    cases hs
  | validateFail | nbsyTimeout | drqTimeout | readErr | transferLast | issueWait | settleLast | drqError | drqReady
  | transferSector => cases ht
  | validatePass h | nbsyReady h | programLast h | issueSettle h => exact ⟨by rw [h]; rfl, rfl, rfl⟩

/-- R146: a move leaves DONE and RESULT alone, or finishes with a class below NONE. -/
theorem SequencerStep.result {s t : State} (hstep : SequencerStep s t) :
    (t.statusDone = s.statusDone ∧ t.result = s.result) ∨
      (t.statusDone = true ∧ ∃ cls d e st, t.result = resultWord cls d e st ∧ cls.code.toNat ≤ 3) := by
  cases hstep.split_case with
  | validateFail | nbsyTimeout | drqTimeout | readErr | transferLast => exact .inr ⟨rfl, _, _, _, _, rfl, by decide⟩
  | idle | stuck | nbsyStay | programMore | settleMore | drqStay | transferMore | validatePass | nbsyReady | programLast
  | issueSettle | issueWait | settleLast | drqError | drqReady | transferSector => exact .inl ⟨rfl, rfl⟩

/-- R175: a move leaves memory alone, or stores the two bytes of a word, at addresses that exist. -/
theorem SequencerStep.mem_cases {s t : State} (hstep : SequencerStep s t) :
    t.mem = s.mem ∨ (s.seqState = .transfer ∧ addressExists s.cfg (transferAddr s + 1) = true ∧
      ∃ lo hi, t.mem = Memory.write (Memory.write s.mem (transferAddr s) lo) (transferAddr s + 1) hi) := by
  cases hstep.split_case with
  | transferMore h x | transferSector h x | transferLast h x => exact .inr ⟨h, x, _, _, rfl⟩
  | _ => exact .inl rfl

/-- R28, R146: the CLASS field and bits 31:24 of the word `Finish` writes. -/
theorem resultWord_fields (cls : ResultClass) (d : BitVec 4) (e st : Byte) :
    (resultClassField (resultWord cls d e st)).toNat = cls.code.toNat ∧
      (resultWord cls d e st).extractLsb' 24 8 = 0#8 := by
  have hc := cls.code.isLt
  have hd := d.isLt
  have he := e.isLt
  have hst := st.isLt
  constructor
  · rw [resultClassField_toNat, resultWord_toNat]
    omega
  · refine BitVec.eq_of_toNat_eq ?_
    rw [BitVec.extractLsb'_toNat, resultWord_toNat, Nat.shiftRight_eq_div_pow, BitVec.toNat_ofNat]
    omega

/-- The invariant is kept by every move of the sequencer. -/
theorem SequencerStep.inv {s t : State} (hstep : SequencerStep s t) (hi : Inv s) : Inv t where
  busy_iff := hstep.statusMove.busy_iff hi.busy_iff
  busy_not_done := hstep.statusMove.busy_not_done hi.busy_not_done
  timeout_pos := by rw [hstep.sameRequest.timeout]; exact hi.timeout_pos
  mode_legal := by rw [hstep.sameRequest.mode, hstep.cfg]; exact hi.mode_legal
  dest_width := by rw [hstep.sameRequest.destAddr, hstep.cfg]; exact hi.dest_width
  result_none := by
    obtain ⟨hd, hres⟩ | ⟨hd, -⟩ := hstep.result
    · rw [hd, hres]; exact hi.result_none
    · rw [hd]; nofun
  result_class := by
    obtain ⟨hd, hres⟩ | ⟨-, cls, d, e, st, hres, hcls⟩ := hstep.result
    · rw [hd, hres]; exact hi.result_class
    · intro _
      obtain ⟨hc, hz⟩ := resultWord_fields cls d e st
      rw [hres, hc]
      exact ⟨hcls, hz⟩
  position := hstep.position hi
  request_valid := by
    intro ht
    rw [hstep.sameRequest.validationDetail_eq hstep.cfg]
    exact (hstep.request_checked ht).elim hi.request_valid id
  no_data_yet := by
    intro ht
    obtain ⟨hs, hsector, hword⟩ := hstep.beforeData ht
    rw [hsector, hword]
    exact hi.no_data_yet hs
  mem_wf := by
    obtain hm | ⟨-, -, lo, hi', hm⟩ := hstep.mem_cases <;> rw [hm]
    · exact hi.mem_wf
    · exact Memory.wf_write (Memory.wf_write hi.mem_wf _ _) _ _
  mem_width := by
    rw [hstep.cfg]
    obtain hm | ⟨-, hx, lo, hi', hm⟩ := hstep.mem_cases <;> rw [hm]
    · exact hi.mem_width
    · have hx := of_decide_eq_true hx
      exact Memory.width_write (Memory.width_write hi.mem_width (Nat.lt_of_succ_lt hx)) hx

/-! ### The turns of an operation -/

/-- The turns the sectors still to come take at most: for each, `T` reads of its data wait and 256 words. -/
def dataTurns (s : State) : Nat := (s.count.toNat - s.seqS.toNat) * (s.timeout.toNat + 256)

/-- How many turns of the sequencer an operation takes at most from the entry of state `p` on (R150). -/
def turnsFrom (s : State) : SeqState → Nat
  | .idle => 0
  | .validate => 1 + s.timeout.toNat + taskfileLength s + 1 + s.cfg.settleReads.toNat + dataTurns s
  | .waitNbsy => s.timeout.toNat + taskfileLength s + 1 + s.cfg.settleReads.toNat + dataTurns s
  | .program => taskfileLength s + 1 + s.cfg.settleReads.toNat + dataTurns s
  | .issue => 1 + s.cfg.settleReads.toNat + dataTurns s
  | .settle => s.cfg.settleReads.toNat + dataTurns s
  | .waitDrq => dataTurns s
  | .readErr => 1
  | .transfer => dataTurns s - s.timeout.toNat

/-- How many of them it spends in state `p` at most. -/
def turnsIn (s : State) : SeqState → Nat
  | .idle => 0
  | .validate | .issue | .readErr => 1
  | .waitNbsy | .waitDrq => s.timeout.toNat
  | .program => taskfileLength s
  | .settle => s.cfg.settleReads.toNat
  | .transfer => 256

/-- How many it has spent in state `p`, by the counter of the state (R40). -/
def turnsTaken (s : State) : SeqState → Nat
  | .idle | .validate | .issue | .readErr => 0
  | .waitNbsy | .waitDrq => s.seqN.toNat
  | .program => s.seqK.toNat
  | .settle => s.seqJ.toNat
  | .transfer => s.seqI.toNat

/-- How many turns of the sequencer the operation takes at most from here on. -/
def remainingTurns (s : State) : Nat := turnsFrom s s.seqState - turnsTaken s s.seqState

theorem remainingTurns_validate {s : State} (hi : Inv s) (h : s.seqState = .validate) :
    remainingTurns s = operationBound s := by
  obtain ⟨hs, -⟩ := hi.no_data_yet (by rw [h]; rfl)
  rw [remainingTurns, h, turnsFrom, turnsTaken, dataTurns, hs]
  rfl

/-- The present sector takes one data wait and 256 words. -/
theorem dataTurns_eq_of_lt {s : State} (h : s.seqS.toNat < s.count.toNat) :
    dataTurns s = (s.count.toNat - (s.seqS.toNat + 1)) * (s.timeout.toNat + 256) + (s.timeout.toNat + 256) := by
  rw [dataTurns, ← Nat.succ_mul]
  congr 1
  omega

theorem sector_le_dataTurns {s : State} (h : s.seqS.toNat < s.count.toNat) : s.timeout.toNat + 256 ≤ dataTurns s :=
  (Nat.le_add_left _ _).trans_eq (dataTurns_eq_of_lt h).symm

/-- R40: while an operation runs, its state has a turn left. -/
theorem turnsTaken_lt_turnsIn {s : State} (hi : Inv s) (hidle : s.seqState ≠ .idle) :
    turnsTaken s s.seqState < turnsIn s s.seqState := by
  have hpos := hi.position
  cases h : s.seqState with
  | idle => exact absurd h hidle
  | validate | issue | readErr => exact Nat.one_pos
  | waitNbsy => exact (positionOk_waitNbsy_iff h).mp hpos
  | program => exact (positionOk_program_iff h).mp hpos
  | settle => exact (positionOk_settle_iff h).mp hpos
  | waitDrq => exact ((positionOk_waitDrq_iff h).mp hpos).1
  | transfer => exact s.seqI.isLt

theorem Inv.sector_lt {s : State} (hi : Inv s) (h : s.seqState = .waitDrq ∨ s.seqState = .transfer) :
    s.seqS.toNat < s.count.toNat := by
  obtain h | h := h
  · exact ((positionOk_waitDrq_iff h).mp hi.position).2.2
  · exact ((positionOk_transfer_iff h).mp hi.position).2.2.2

theorem turnsIn_le_turnsFrom {s : State} (hi : Inv s) : turnsIn s s.seqState ≤ turnsFrom s s.seqState := by
  cases h : s.seqState with
  | idle | readErr => exact le_rfl
  | validate | waitNbsy | program | issue | settle => simp only [turnsIn, turnsFrom]; omega
  | waitDrq | transfer =>
    have hsector := sector_le_dataTurns (hi.sector_lt (by simp [h]))
    simp only [turnsIn, turnsFrom]
    omega

/-- The bounds depend on the request, the parameters and the sector alone. -/
theorem turnsFrom_congr {s t : State} (hc : t.cfg = s.cfg) (hr : SameRequest s t) (hs : t.seqS = s.seqS) :
    turnsFrom t = turnsFrom s := by
  funext p
  cases p <;> simp only [turnsFrom, dataTurns, hr.taskfileLength_eq hc, hc, hr.timeout, hr.count, hs]

/-- R176: the sector that has just been read was one of the sectors to come. -/
theorem dataTurns_of_sector_done {s t : State} (hr : SameRequest s t) (hs : t.seqS = s.seqS + 1)
    (h : s.seqS.toNat < s.count.toNat) (hne : s.seqS.toNat + 1 ≠ s.count.toNat) :
    dataTurns s = dataTurns t + (s.timeout.toNat + 256) := by
  rw [dataTurns_eq_of_lt h, dataTurns, hr.count, hr.timeout, hs, (sector_succ_lt h hne).1]

/-- A move that is not stuck takes one turn of its state, or enters another for whose turns the bound has room. -/
theorem SequencerStep.turns {s t : State} (hstep : SequencerStep s t) (hi : Inv s) (hidle : s.seqState ≠ .idle)
    (hstuck : ¬ Stuck s) :
    (turnsFrom t t.seqState = turnsFrom s s.seqState ∧ turnsTaken t t.seqState = turnsTaken s s.seqState + 1) ∨
      turnsFrom t t.seqState + turnsIn s s.seqState ≤ turnsFrom s s.seqState := by
  have hlt := turnsTaken_lt_turnsIn hi hidle
  have hfrom : t.seqS = s.seqS → turnsFrom t = turnsFrom s := turnsFrom_congr hstep.cfg hstep.sameRequest
  have hstay (hsect : t.seqS = s.seqS) (hp : t.seqState = s.seqState)
      (hone : turnsTaken t s.seqState = turnsTaken s s.seqState + 1) :
      turnsFrom t t.seqState = turnsFrom s s.seqState ∧ turnsTaken t t.seqState = turnsTaken s s.seqState + 1 := by
    rw [hp, hfrom hsect]
    exact ⟨rfl, hone⟩
  cases hstep.split_case with
  | idle h => exact absurd h hidle
  | stuck h a => exact absurd ⟨h, a⟩ hstuck
  | validateFail | nbsyTimeout | drqTimeout | readErr | transferLast =>
    exact .inr ((Nat.zero_add _).trans_le (turnsIn_le_turnsFrom hi))
  | nbsyStay h b n | drqStay h b n =>
    exact .inl (hstay rfl rfl (by rw [h]; exact word_succ_toNat (Nat.lt_of_succ_lt n)))
  | programMore h =>
    rw [h] at hlt
    have hk : s.seqK.toNat < 9 := lt_of_lt_of_le hlt (taskfileLength_bounds s).2
    exact .inl (hstay rfl rfl (by rw [h]; exact index_succ_toNat hk))
  | settleMore h j =>
    rw [h] at hlt
    exact .inl (hstay rfl rfl (by rw [h]; exact (settle_succ_lt hlt j).1))
  | transferMore h x a i => exact .inl (hstay rfl rfl (by rw [h]; exact byte_succ_toNat i))
  | validatePass h | nbsyReady h | programLast h | issueSettle h | issueWait h | settleLast h =>
    rw [hfrom rfl, h]
    simp only [turnsIn, turnsFrom]
    omega
  | drqError h | drqReady h =>
    have hsector := sector_le_dataTurns (hi.sector_lt (.inl h))
    rw [hfrom rfl, h]
    simp only [turnsIn, turnsFrom]
    omega
  | transferSector h x a i c =>
    have hdone := dataTurns_of_sector_done hstep.sameRequest rfl (hi.sector_lt (.inr h)) c
    refine .inr ?_
    rw [h]
    show dataTurns _ + 256 ≤ dataTurns s - s.timeout.toNat
    rw [hdone]
    omega

theorem SequencerStep.remainingTurns_lt {s t : State} (hstep : SequencerStep s t) (hi : Inv s)
    (hidle : s.seqState ≠ .idle) (hstuck : ¬ Stuck s) : remainingTurns t < remainingTurns s := by
  have htaken := turnsTaken_lt_turnsIn hi hidle
  have hroom := turnsIn_le_turnsFrom hi
  simp only [remainingTurns]
  obtain ⟨hfrom, hone⟩ | hfrom := hstep.turns hi hidle hstuck <;> omega

/-! ### The end of an operation -/

/-- The sequencer's turn, of either shape: taken from the queue, or because no turn is queued. -/
theorem step_of_sequencer_turn {s u : State} (hc : s.cfg.ok = true)
    (hu : (s.pending = [] ∧ u = s) ∨ ∃ rest, s.pending = .sequencer :: rest ∧ u = { s with pending := rest }) :
    step s = runFetched (sequencerTurn u) := by
  rw [step_eq hc, fetch]
  obtain ⟨hp, rfl⟩ | ⟨rest, hp, rfl⟩ := hu <;> rw [hp]

/-- R181: where the platform admits the destination, no TRANSFER step is stuck. -/
theorem not_stuck_of_destinationAdmitted {s : State} (hi : Inv s) (h : DestinationAdmitted s) : ¬ Stuck s := by
  rintro ⟨hp, hrefused⟩
  obtain ⟨hlow, hhigh⟩ := inDestination_transferAddr (hi.sector_lt (.inr hp))
  rw [h _ hlow, h _ hhigh] at hrefused
  cases hrefused

/-- An operation with only the sequencer moving, and every byte of its destination admitted: running, or finished. -/
structure RunsAlone (s : State) : Prop where
  inv : Inv s
  described : s.cfg.ok = true
  alone : SequencerAlone s
  admitted : DestinationAdmitted s
  done_of_idle : s.seqState = .idle → s.statusDone = true

/-- A step of a running operation keeps it one and brings its end nearer. -/
theorem RunsAlone.step_next {s : State} (h : RunsAlone s) (hidle : s.seqState ≠ .idle) :
    ∃ t, step s = .next t ∧ RunsAlone t ∧ remainingTurns t < remainingTurns s := by
  obtain ⟨hi, hc, hp, ha, -⟩ := h
  have hexists : s.seqState = .transfer → addressExists s.cfg (transferAddr s + 1) = true := fun ht =>
    addressExists_of_inDestination (hi.request_valid (by rw [ht]; rfl))
      (inDestination_transferAddr (hi.sector_lt (.inr ht))).2
  obtain ⟨t, hturn, -⟩ := sequencerTurn_next hi.position hexists
  have hstep := sequencerTurn_cases hturn
  refine ⟨t, (step_of_sequencer_turn hc (.inl ⟨hp, rfl⟩)).trans hturn,
    ⟨hstep.inv hi, hstep.cfg ▸ hc, hstep.pending.trans hp, hstep.sameRequest.destinationAdmitted hstep.cfg ha, ?_⟩,
    hstep.remainingTurns_lt hi hidle (not_stuck_of_destinationAdmitted hi ha)⟩
  intro ht
  obtain ⟨-, -, hkept⟩ | ⟨-, -, hbusy⟩ | ⟨-, hdone, -⟩ := hstep.statusMove
  · exact absurd (hkept.mp ht) hidle
  · exact absurd ht hbusy
  · exact hdone

/-- R150: the operation finishes within the turns that remain, by induction on their number. -/
theorem RunsAlone.finishes {s : State} (h : RunsAlone s) :
    ∃ k t, k ≤ remainingTurns s ∧ core.run k s = .next t ∧ t.seqState = .idle ∧ t.statusDone = true := by
  induction hn : remainingTurns s using Nat.strong_induction_on generalizing s with
  | _ n ih =>
    by_cases hidle : s.seqState = .idle
    · exact ⟨0, s, Nat.zero_le _, rfl, hidle, h.done_of_idle hidle⟩
    · obtain ⟨u, hstep, hu, hlt⟩ := h.step_next hidle
      obtain ⟨k, t, hk, hrun, hend⟩ := ih _ (hn ▸ hlt) hu rfl
      exact ⟨k + 1, t, by omega, (run_succ core hstep k).trans hrun, hend⟩

/-- Settles O54: the turns that remain at VALIDATE are the bound. -/
theorem operationFinishesWithinBound : Obligations.OperationFinishesWithinBound := by
  intro s hi hc hp hv ha
  rw [← remainingTurns_validate hi hv]
  exact RunsAlone.finishes ⟨hi, hc, hp, ha, fun h => absurd (hv.symm.trans h) (by decide)⟩

end Sys2Proof.Machine
end

section
/-! SUPPORT. The command sequencer's own steps (spec/41_sequencer.md): the checks of VALIDATE (R137), the taskfile writes of
PROGRAM (R140 to R142) and the command of ISSUE (R143), each with the numbers it works on. -/

namespace Sys2Proof.Machine

/-! ### The request as numbers -/

/-- R23: the 48-bit LBA as a number. -/
theorem requestLba_toNat (s : State) : (requestLba s).toNat = s.lbaHi.toNat * 2 ^ 32 + s.lbaLo.toNat := by
  rw [requestLba, BitVec.toNat_append, ← Nat.shiftLeft_add_eq_or_of_lt s.lbaLo.isLt, Nat.shiftLeft_eq]

/-- The `n` bits of the LBA from bit `k` on, as a number. -/
theorem requestLba_extract_toNat (s : State) (k n : Nat) :
    ((requestLba s).extractLsb' k n).toNat = (s.lbaHi.toNat * 2 ^ 32 + s.lbaLo.toNat) / 2 ^ k % 2 ^ n := by
  rw [BitVec.extractLsb'_toNat, Nat.shiftRight_eq_div_pow, requestLba_toNat]

theorem requestLba_low_toNat (s : State) (n : Nat) :
    ((requestLba s).extractLsb' 0 n).toNat = (s.lbaHi.toNat * 2 ^ 32 + s.lbaLo.toNat) % 2 ^ n := by
  rw [requestLba_extract_toNat, pow_zero, Nat.div_one]

theorem lbaWidth_eq (s : State) : lbaWidth s = if s.cfg.hasLba48 = true ∧ s.ctrlMode = true then 48 else 28 := by
  simp only [lbaWidth, ctrlModeBit_eq_true_iff]

/-! ### VALIDATE -/

/-- R137: the bits of DETAIL, by the request. -/
theorem validationDetail_bits (s : State) :
    ((validationDetail s).getLsbD 0 = true ↔
      (requestLba s).toNat ≥ 2 ^ lbaWidth s ∨ (requestLba s).toNat + s.count.toNat > 2 ^ lbaWidth s) ∧
    ((validationDetail s).getLsbD 1 = true ↔ s.count.toNat = 0) ∧
    ((validationDetail s).getLsbD 2 = true ↔ s.destLen.toNat < 512 * s.count.toNat) ∧
    ((validationDetail s).getLsbD 3 = true ↔
      (destAddrReg s).toNat + 512 * s.count.toNat > 2 ^ s.cfg.memAddrWidth) := by
  obtain ⟨hrange, hzero, hsize, hwrap⟩ := checkDetail_bits (lbaWidth s) (requestLba s).toNat s.count.toNat
    (destAddrReg s).toNat s.destLen.toNat s.cfg.memAddrWidth
  simp only [validationDetail, hrange, hzero, hsize, hwrap, Bool.or_eq_true, decide_eq_true_eq, and_self]

/-- The VALIDATE turn, of either shape. -/
theorem step_validate {s u : State} (hc : s.cfg.ok = true)
    (hu : (s.pending = [] ∧ u = s) ∨ ∃ rest, s.pending = .sequencer :: rest ∧ u = { s with pending := rest })
    (hp : u.seqState = .validate) : step s = .next (validateStep u) := by
  rw [step_of_sequencer_turn hc hu, sequencerTurn, hp]
  rfl

/-- Settles O23: the bits of DETAIL are the four checks, and the step goes by whether one is set. -/
theorem validateChecksTheRequest : Obligations.ValidateChecksTheRequest := by
  intro s u hc hu hp
  obtain ⟨hsame, hup, hhist⟩ :
      validationDetail u = validationDetail s ∧ u.seqState = .validate ∧ u.history = s.history := by
    obtain ⟨-, rfl⟩ | ⟨rest, -, rfl⟩ := hu <;> exact ⟨rfl, hp, rfl⟩
  have hstep := step_validate hc hu hup
  obtain ⟨hrange, hzero, hsize, hwrap⟩ := validationDetail_bits s
  rw [lbaWidth_eq, requestLba_toNat] at hrange
  rw [destAddrReg, lowBits_toNat] at hwrap
  refine ⟨validationDetail s, resultWord .invalidParameters (validationDetail s) 0 0, hrange, hzero, hsize, hwrap,
    resultWord_toNat _ _ _ _, fun hd => ?_, fun hd => ?_⟩
  · rw [hstep, validateStep_pass (hsame.trans hd)]
  · rw [hstep, validateStep_fail (hsame ▸ hd), hsame, ← hhist]
    rfl

/-! ### PROGRAM -/

section
variable {s : State} {entries : List (BitVec 3 × Byte)} {n : Nat} {k : BitVec 4} {o : BitVec 3} {v : Byte}
  (hp : s.seqState = .program) (hlist : taskfile s = entries) (hlen : taskfileLength s = n) (hk : s.seqK = k)
  (he : entries[k.toNat]? = some (o, v))
include hp hlist hlen hk he

/-- R140: a taskfile write that is not the last. -/
theorem taskfileWrite_more (hne : k.toNat + 1 ≠ n) :
    taskfileWrite o s = .next { s with seqK := k + 1, history := s.history ++ [.devOut8 (devPort s o) v] } := by
  subst hlist hlen hk
  rw [taskfileWrite_eq hp he, programWrite_more (by rwa [taskfile_length])]
  rfl

/-- R140: the last taskfile write enters ISSUE. -/
theorem taskfileWrite_last (hn : k.toNat + 1 = n) :
    taskfileWrite o s =
      .next { s with seqK := k + 1, seqState := .issue, history := s.history ++ [.devOut8 (devPort s o) v] } := by
  subst hlist hlen hk
  rw [taskfileWrite_eq hp he, programWrite_last (by rwa [taskfile_length])]
  rfl

end

theorem taskfileLength_of_mode28 {s : State} (hm : ctrlModeBit s = false) : taskfileLength s = 5 := by
  rw [taskfileLength, hm]; rfl

theorem taskfileLength_of_mode48 {s : State} (hm : ctrlModeBit s = true) : taskfileLength s = 9 := by
  rw [taskfileLength, hm]; rfl

/-- Settles O24, entry by entry of `List28`. -/
theorem taskfile28Writes : Obligations.Taskfile28Writes := by
  intro s hp hmode
  have hm := (ctrlModeBit_eq_false_iff s).mpr hmode
  have hlist := taskfile_of_mode28 hm
  have hlen := taskfileLength_of_mode28 hm
  have hhead : (devHead28 (BitVec.ofBool s.ctrlDrv) ((requestLba s).extractLsb' 24 4)).toNat =
      0xE0 + 16 * s.ctrlDrv.toNat + (s.lbaHi.toNat * 2 ^ 32 + s.lbaLo.toNat) / 2 ^ 24 % 16 := by
    rw [devHead28_toNat, requestLba_extract_toNat, BitVec.toNat_ofBool]; rfl
  exact ⟨fun hk => ⟨_, hhead, taskfileWrite_more hp hlist hlen hk rfl (by decide)⟩,
    fun hk => taskfileWrite_more hp hlist hlen hk rfl (by decide),
    fun hk => ⟨_, requestLba_low_toNat s 8, taskfileWrite_more hp hlist hlen hk rfl (by decide)⟩,
    fun hk => ⟨_, requestLba_extract_toNat s 8 8, taskfileWrite_more hp hlist hlen hk rfl (by decide)⟩,
    fun hk => ⟨_, requestLba_extract_toNat s 16 8, taskfileWrite_last hp hlist hlen hk rfl rfl⟩⟩

/-- Settles O25, entry by entry of `List48`. -/
theorem taskfile48Writes : Obligations.Taskfile48Writes := by
  intro s hp h48 hmode
  have hm := (ctrlModeBit_eq_true_iff s).mpr ⟨h48, hmode⟩
  have hlist := taskfile_of_mode48 hm
  have hlen := taskfileLength_of_mode48 hm
  have hhead : (devHead48 (BitVec.ofBool s.ctrlDrv)).toNat = 0x40 + 16 * s.ctrlDrv.toNat := by
    rw [devHead48_toNat, BitVec.toNat_ofBool]
  exact ⟨fun hk => ⟨_, hhead, taskfileWrite_more hp hlist hlen hk rfl (by decide)⟩,
    fun hk => taskfileWrite_more hp hlist hlen hk rfl (by decide),
    fun hk => ⟨_, requestLba_extract_toNat s 24 8, taskfileWrite_more hp hlist hlen hk rfl (by decide)⟩,
    fun hk => ⟨_, requestLba_extract_toNat s 32 8, taskfileWrite_more hp hlist hlen hk rfl (by decide)⟩,
    fun hk => ⟨_, requestLba_extract_toNat s 40 8, taskfileWrite_more hp hlist hlen hk rfl (by decide)⟩,
    fun hk => taskfileWrite_more hp hlist hlen hk rfl (by decide),
    fun hk => ⟨_, requestLba_low_toNat s 8, taskfileWrite_more hp hlist hlen hk rfl (by decide)⟩,
    fun hk => ⟨_, requestLba_extract_toNat s 8 8, taskfileWrite_more hp hlist hlen hk rfl (by decide)⟩,
    fun hk => ⟨_, requestLba_extract_toNat s 16 8, taskfileWrite_last hp hlist hlen hk rfl rfl⟩⟩

/-! ### ISSUE -/

theorem exec_outCmd {s : State} (hp : s.seqState = .issue) : exec .outCmd s = .next (issueCommand (commandByte s) s) :=
  if_pos hp

theorem exec_cmdReadSectors {s : State} (hp : s.seqState = .issue) (hm : ctrlModeBit s = false) :
    exec .cmdReadSectors s = .next (issueCommand 0x20 s) :=
  if_pos ⟨hp, hm⟩

theorem exec_cmdReadSectorsExt {s : State} (hp : s.seqState = .issue) (hm : ctrlModeBit s = true) :
    exec .cmdReadSectorsExt s = .next (issueCommand 0x24 s) :=
  if_pos ⟨hp, hm⟩

theorem commandByte_of_mode28 {s : State} (hm : ctrlModeBit s = false) : commandByte s = 0x20 := by
  rw [commandByte, hm]; rfl

theorem commandByte_of_mode48 {s : State} (hm : ctrlModeBit s = true) : commandByte s = 0x24 := by
  rw [commandByte, hm]; rfl

/-- Settles O27: OUT_CMD and the command row of the mode both issue its command byte. -/
theorem issueWritesTheCommand : Obligations.IssueWritesTheCommand := by
  intro s i v hp hrow
  have hexec : exec i s = .next (issueCommand v s) := by
    obtain ⟨h48, hmode, rfl, hi⟩ | ⟨hmode, rfl, hi⟩ := hrow
    · have hm := (ctrlModeBit_eq_true_iff s).mpr ⟨h48, hmode⟩
      obtain rfl | rfl := hi
      · rw [exec_outCmd hp, commandByte_of_mode48 hm]
      · exact exec_cmdReadSectorsExt hp hm
    · have hm := (ctrlModeBit_eq_false_iff s).mpr hmode
      obtain rfl | rfl := hi
      · rw [exec_outCmd hp, commandByte_of_mode28 hm]
      · exact exec_cmdReadSectors hp hm
  constructor
  · intro hr
    rw [hexec, issueCommand_settle hr]; rfl
  · intro hr
    rw [hexec, issueCommand_wait hr]; rfl

end Sys2Proof.Machine
end

section
/-! SUPPORT. The status poller (spec/42_status_poller.md): the status read of each state that makes one (R155), the error read
(R161), and the count of a wait across a step of any agent (R157). -/

namespace Sys2Proof.Machine

/-! ### What a status byte does to a wait -/

/-- R158: BSY = 0 ends the not-busy wait. -/
theorem nbsyCondition_of_not_bsy {v : Byte} (hb : bsy v = false) : nbsyCondition v = .toProgram := by
  rw [nbsyCondition, hb]; rfl

/-- R158: BSY = 1 continues the not-busy wait. -/
theorem nbsyCondition_of_bsy {v : Byte} (hb : bsy v = true) : nbsyCondition v = .stay := by
  rw [nbsyCondition, hb]; rfl

/-- R159: with BSY = 0, ERR ends the data wait, whatever DRQ holds. -/
theorem drqCondition_of_err {v : Byte} (hb : bsy v = false) (he : err v = true) : drqCondition v = .toReadErr := by
  rw [drqCondition, hb, he]; rfl

/-- R159: with BSY = 0 and ERR = 0, DRQ ends the data wait. -/
theorem drqCondition_of_drq {v : Byte} (hb : bsy v = false) (he : err v = false) (hq : drq v = true) :
    drqCondition v = .toTransfer := by
  rw [drqCondition, hb, he, hq]; rfl

/-- R160: BSY = 1 hides ERR and DRQ; a byte without any of the three continues the data wait as well. -/
theorem drqCondition_of_stay {v : Byte} (h : bsy v = true ∨ (err v = false ∧ drq v = false)) :
    drqCondition v = .stay := by
  cases hb : bsy v with
  | true => rw [drqCondition, hb]; rfl
  | false =>
    obtain ⟨he, hq⟩ := h.resolve_left (by rw [hb]; exact Bool.false_ne_true)
    rw [drqCondition, hb, he, hq]; rfl

/-! ### The reads, by the state that makes them -/

section
variable {s : State}

theorem exec_inStatus_waitNbsy (hp : s.seqState = .waitNbsy) :
    exec .inStatus s = .next (pollStep nbsyCondition 0x1 s) := by
  rw [exec, execInStatus, hp]

theorem exec_inStatus_settle (hp : s.seqState = .settle) : exec .inStatus s = .next (settleStep s) := by
  rw [exec, execInStatus, hp]

theorem exec_inStatus_waitDrq (hp : s.seqState = .waitDrq) :
    exec .inStatus s = .next (pollStep drqCondition 0x2 s) := by
  rw [exec, execInStatus, hp]

theorem exec_inError (hp : s.seqState = .readErr) :
    exec .inError s = .next (finish .deviceError 0 (nextByte s) s.lastStatus (devIn8 1 s)) :=
  if_pos hp

end

/-! ### One read of each state -/

/-- Settles O30: the byte is kept, and the step goes by the count of settle reads. -/
theorem settleReadsAreNotEvaluated : Obligations.SettleReadsAreNotEvaluated := by
  intro s hp
  refine ⟨fun hj => ?_, fun hj => ?_⟩
  · rw [exec_inStatus_settle hp, settleStep_more hj]; rfl
  · rw [exec_inStatus_settle hp, settleStep_last hj]; rfl

/-- Settles O31: the one error read, and the RESULT of its `Finish` as a number. -/
theorem readErrFinishesDeviceError : Obligations.ReadErrFinishesDeviceError := by
  intro s hp
  refine ⟨resultWord .deviceError 0 (nextByte s) s.lastStatus, resultWord_toNat _ _ _ _, ?_⟩
  rw [exec_inError hp, List.append_cons]
  rfl

/-- Settles O28: BSY alone chooses between PROGRAM and the count. -/
theorem waitNbsyStatusRead : Obligations.WaitNbsyStatusRead := by
  intro s hp
  have hexec := exec_inStatus_waitNbsy hp
  refine ⟨fun hb => ?_, fun hb hn => ?_, fun hb hn => ⟨resultWord .deviceTimeout 0x1 0 (nextByte s), ?_, ?_⟩⟩
  · rw [hexec, pollStep_toProgram (nbsyCondition_of_not_bsy hb)]; rfl
  · rw [hexec, pollStep_stay (nbsyCondition_of_bsy hb) hn]; rfl
  · exact resultWord_toNat _ _ _ _
  · rw [hexec, pollStep_timeout (nbsyCondition_of_bsy hb) hn]; rfl

/-- Settles O29: a byte that ends the wait does so at any count; only one that continues it meets the bound. -/
theorem waitDrqStatusRead : Obligations.WaitDrqStatusRead := by
  intro s hp
  have hexec := exec_inStatus_waitDrq hp
  refine ⟨fun hb he => ?_, fun hb he hq => ?_, fun hs hn => ?_,
    fun hs hn => ⟨resultWord .deviceTimeout 0x2 0 (nextByte s), ?_, ?_⟩⟩
  · rw [hexec, pollStep_toReadErr (drqCondition_of_err hb he)]; rfl
  · rw [hexec, pollStep_toTransfer (drqCondition_of_drq hb he hq)]; rfl
  · rw [hexec, pollStep_stay (drqCondition_of_stay hs) hn]; rfl
  · exact resultWord_toNat _ _ _ _
  · rw [hexec, pollStep_timeout (drqCondition_of_stay hs) hn]; rfl

/-! ### The count of a wait -/

/-- R87: the test of a poll loop changes the queue of turns alone. -/
theorem pollBranch_changes_pending (h : BitVec 9) (mask value : Word) (s : State) :
    ∃ q, pollBranch h mask value s = { s with pending := q } := by
  unfold pollBranch
  split
  · exact ⟨s.pending, rfl⟩
  · exact ⟨_, rfl⟩

/-- R98, R148: while BUSY = 1 a step that is no reset is a move of the sequencer, or changes nothing of the PSR. -/
theorem step_of_busy {s t : State} (h : step s = .next t) (hb : s.statusBusy = true)
    (hr : ∀ rest, s.pending ≠ .reset :: rest) :
    (∃ q, SequencerStep { s with pending := q } t) ∨
      ∃ q m rs evs, t = { s with pending := q, mem := m, responses := rs, history := evs } := by
  obtain ⟨-, hq⟩ | ⟨rest, -, hq⟩ | ⟨hd, w, rest, -, he⟩ | ⟨rest, hp, -⟩ | ⟨a, n, rest, -, -, rfl⟩ |
    ⟨a, v, rest, -, -, rfl⟩ | ⟨hd, m, v, rest, -, rfl⟩ | ⟨hd, m, v, rest, -, rfl⟩ := step_cases h
  · exact .inl ⟨s.pending, hq⟩
  · exact .inl ⟨rest, hq⟩
  · obtain ⟨r, evs, hexec, -⟩ := hostTransactionsWhileBusyAlterNothing (decodeHost hd w) { s with pending := rest }
      (decodeHost_isHost hd w) hb
    obtain rfl := Host.Outcome.next.inj (hexec.symm.trans he)
    exact .inr ⟨_, _, _, _, rfl⟩
  · exact absurd hp (hr rest)
  · exact .inr ⟨_, _, _, _, rfl⟩
  · exact .inr ⟨_, _, _, _, rfl⟩
  · exact .inr ⟨_, _, _, _, rfl⟩
  · obtain ⟨q, hq⟩ := pollBranch_changes_pending hd m v { s with pending := rest }
    rw [hq]
    exact .inr ⟨_, _, _, _, rfl⟩

/-- R144, R156: a move keeps the count, starts it at 0, or counts one status read of a wait that has a read left. -/
theorem SequencerStep.seqN_cases {s t : State} (hstep : SequencerStep s t) (hpos : positionOk s) :
    t.seqN = s.seqN ∨ t.seqN = 0 ∨ (t.seqN = s.seqN + 1 ∧ s.seqN.toNat < s.timeout.toNat) := by
  cases hstep.split_case with
  | idle | validateFail | programMore | programLast | issueSettle | settleMore | readErr | transferMore | transferLast
  | stuck => exact .inl rfl
  | validatePass | issueWait | settleLast | transferSector => exact .inr (.inl rfl)
  | nbsyReady h | nbsyStay h | nbsyTimeout h => exact .inr (.inr ⟨rfl, (positionOk_waitNbsy_iff h).mp hpos⟩)
  | drqError h | drqReady h | drqStay h | drqTimeout h =>
    exact .inr (.inr ⟨rfl, ((positionOk_waitDrq_iff h).mp hpos).1⟩)

/-- R98, R157: across a step of a running operation TIMEOUT stays, and the count moves as in `SequencerStep.seqN_cases`. -/
theorem step_timeout_and_seqN {s t : State} (hi : Inv s) (h : step s = .next t) (hb : s.statusBusy = true)
    (hr : ∀ rest, s.pending ≠ .reset :: rest) :
    t.timeout = s.timeout ∧
      (t.seqN = s.seqN ∨ t.seqN = 0 ∨ (t.seqN = s.seqN + 1 ∧ s.seqN.toNat < s.timeout.toNat)) := by
  obtain ⟨q, hstep⟩ | ⟨q, m, rs, evs, rfl⟩ := step_of_busy h hb hr
  · exact ⟨hstep.sameRequest.timeout, hstep.seqN_cases hi.position⟩
  · exact ⟨rfl, .inl rfl⟩

/-- Settles O55: the count grows only by a read that the invariant places below TIMEOUT. -/
theorem pollCountNeverExceedsTimeout : Obligations.PollCountNeverExceedsTimeout := by
  intro s t hi h hb hr hle
  obtain ⟨htimeout, hkeep | hzero | ⟨hsucc, hlt⟩⟩ := step_timeout_and_seqN hi h hb hr
  · rw [htimeout, hkeep]
    exact ⟨hle, fun hne => absurd rfl hne⟩
  · rw [hzero]
    exact ⟨Nat.zero_le _, fun _ => .inl rfl⟩
  · rw [htimeout, hsucc, word_succ_toNat hlt]
    exact ⟨hlt, fun _ => .inr rfl⟩

end Sys2Proof.Machine
end

section
/-! SUPPORT. The data-port mux (spec/43_data_port_mux.md): the TRANSFER step in its four ways (R175, R181), the states that
issue each transaction of the sequencer (R174), and what an operation has put into memory at every point of its run (R177). -/

namespace Sys2Proof.Machine

/-! ### Where each transaction is issued -/

/-- R174: the states of the sequencer that issue a transaction; a host transaction has none. -/
def issuingStates : Instr → List SeqState
  | .outDevhead | .outSeccount | .outLbalo | .outLbamid | .outLbahi | .devheadLba28 _ _ | .devheadLba48 _ => [.program]
  | .outCmd | .cmdReadSectors | .cmdReadSectorsExt => [.issue]
  | .inStatus => [.waitNbsy, .settle, .waitDrq]
  | .inError => [.readErr]
  | .inData => [.transfer]
  | _ => []

theorem taskfileWrite_not_issued {s : State} (h : s.seqState ≠ .program) (o : BitVec 3) :
    taskfileWrite o s = .fault .transactionNotIssued := by
  unfold taskfileWrite
  split
  · exact absurd ‹_› h
  · rfl

theorem execInStatus_not_issued {s : State} (h : s.seqState ∉ [.waitNbsy, .settle, .waitDrq]) :
    execInStatus s = .fault .transactionNotIssued := by
  unfold execInStatus
  split
  case h_1 hp | h_2 hp | h_3 hp => exact absurd (by rw [hp]; decide) h
  all_goals rfl

/-- R174: outside its issuing states the meaning of a transaction stops by name. -/
theorem exec_not_issued {i : Instr} {s : State} (hi : i.isHost = false) (h : s.seqState ∉ issuingStates i) :
    exec i s = .fault .transactionNotIssued := by
  cases i with
  | outDevhead | outSeccount | outLbalo | outLbamid | outLbahi =>
    exact taskfileWrite_not_issued (mt List.mem_singleton.mpr h) _
  | devheadLba28 | devheadLba48 => exact if_neg fun hp => h (List.mem_singleton.mpr hp.1)
  | outCmd | inError | inData => exact if_neg (mt List.mem_singleton.mpr h)
  | cmdReadSectors | cmdReadSectorsExt => exact if_neg fun hp => h (List.mem_singleton.mpr hp.1)
  | inStatus => exact execInStatus_not_issued h
  | _ => cases hi

theorem issuing_of_exec_next {i : Instr} {s t : State} (hi : i.isHost = false) (h : exec i s = .next t) :
    s.seqState ∈ issuingStates i := by
  by_contra hp
  rw [exec_not_issued hi hp] at h
  cases h

/-- No transaction is issued in IDLE or in VALIDATE. -/
theorem issuingStates_idle_validate (i : Instr) :
    SeqState.idle ∉ issuingStates i ∧ SeqState.validate ∉ issuingStates i := by
  cases i <;> simp [issuingStates]

/-- Settles O35: `exec_not_issued` in both directions. The form of the stop is the model's choice (assumption log 9). -/
theorem transactionsOnlyInTheirState : Obligations.TransactionsOnlyInTheirState := by
  intro i s hi
  refine ⟨?_, fun hp => exec_not_issued hi ?_⟩
  · rintro ⟨t, ht⟩
    have hp := issuing_of_exec_next hi ht
    refine ⟨fun hm => ?_, fun d l hm => ?_, fun hm => ?_, ?_, ?_, ?_⟩
    · simp only [List.mem_cons, List.not_mem_nil, or_false] at hm
      obtain rfl | rfl | rfl | rfl | rfl := hm <;> exact List.mem_singleton.mp hp
    · obtain rfl | rfl := hm <;> exact List.mem_singleton.mp hp
    · simp only [List.mem_cons, List.not_mem_nil, or_false] at hm
      obtain rfl | rfl | rfl := hm <;> exact List.mem_singleton.mp hp
    · rintro rfl
      simpa [issuingStates] using hp
    · rintro rfl
      exact List.mem_singleton.mp hp
    · rintro rfl
      exact List.mem_singleton.mp hp
  · obtain ⟨hidle, hvalidate⟩ := issuingStates_idle_validate i
    obtain hp | hp := hp <;> rw [hp]
    · exact hidle
    · exact hvalidate

/-! ### The two bytes of a word -/

theorem lowByte_toNat (w : Half) : (w.extractLsb' 0 8).toNat = w.toNat % 256 := by
  rw [BitVec.extractLsb'_toNat, Nat.shiftRight_zero]

theorem highByte_toNat (w : Half) : (w.extractLsb' 8 8).toNat = w.toNat / 256 := by
  have hw := w.isLt
  rw [BitVec.extractLsb'_toNat, Nat.shiftRight_eq_div_pow]
  omega

/-- R48: the word `w` at address `a`, low byte first. -/
def Memory.writeWord (m : Memory) (a : Nat) (w : Half) : Memory :=
  Memory.write (Memory.write m a (w.extractLsb' 0 8)) (a + 1) (w.extractLsb' 8 8)

/-- R48: memory holds the word `w` at address `a`, low byte first. -/
def Memory.HoldsWord (m : Memory) (a : Nat) (w : Half) : Prop :=
  Memory.read m a = some (w.extractLsb' 0 8) ∧ Memory.read m (a + 1) = some (w.extractLsb' 8 8)

theorem Memory.holdsWord_writeWord (m : Memory) (a : Nat) (w : Half) : (m.writeWord a w).HoldsWord a w := by
  refine ⟨?_, Memory.read_write_same _ _ _⟩
  rw [Memory.writeWord, Memory.read_write_other _ _ (by omega), Memory.read_write_same]

theorem Memory.read_writeWord_other (m : Memory) {a x : Nat} (w : Half) (h : x ≠ a) (h1 : x ≠ a + 1) :
    Memory.read (m.writeWord a w) x = Memory.read m x := by
  rw [Memory.writeWord, Memory.read_write_other _ _ h1, Memory.read_write_other _ _ h]

/-! ### The TRANSFER step -/

/-- R175: the events of a stored word: one data read and two byte writes, low byte first. -/
def wordEvents (s : State) : List Event :=
  [.devIn16 s.cfg.devBase (nextWord s), .memWrite (transferAddr s) ((nextWord s).extractLsb' 0 8),
    .memWrite (transferAddr s + 1) ((nextWord s).extractLsb' 8 8)]

theorem dataWords_wordEvents (s : State) : dataWords (wordEvents s) = [nextWord s] := rfl

theorem memWrites_wordEvents_length (s : State) : (memWrites (wordEvents s)).length = 2 := rfl

theorem storedWord_mem (s : State) : (storedWord s).mem = s.mem.writeWord (transferAddr s) (nextWord s) := rfl

theorem storedWord_history (s : State) : (storedWord s).history = s.history ++ wordEvents s := by
  have hport : devPort s 0 = s.cfg.devBase := BitVec.add_zero _
  simp only [storedWord, memWriteByte, devIn16, hport, List.append_assoc]
  rfl

theorem storedWord_eq (s : State) : storedWord s = { s with
    wordAnswers := s.wordAnswers.tail, draws := s.draws + 1, mem := s.mem.writeWord (transferAddr s) (nextWord s)
    history := s.history ++ wordEvents s } := by
  rw [← storedWord_history]
  rfl

/-- R176: the address of the present word as a number. -/
theorem transferAddr_eq (s : State) :
    transferAddr s = s.destAddr.toNat % 2 ^ s.cfg.memAddrWidth + 512 * s.seqS.toNat + 2 * s.seqI.toNat := by
  rw [transferAddr, destAddrReg, lowBits_toNat]

section
variable {s : State} (hp : s.seqState = .transfer) (hx : transferAddr s + 1 < 2 ^ s.cfg.memAddrWidth)
include hp hx

theorem exec_inData_admitted (hlo : memAdmit s.cfg (transferAddr s) 1 = true)
    (hhi : memAdmit s.cfg (transferAddr s + 1) 1 = true) : exec .inData s = .next (transferWord s) := by
  have hexists : addressExists s.cfg (transferAddr s + 1) = true := decide_eq_true hx
  rw [exec, execInData, if_pos hp, if_pos hexists, hlo, hhi]
  rfl

theorem exec_inData_refused
    (h : (memAdmit s.cfg (transferAddr s) 1 && memAdmit s.cfg (transferAddr s + 1) 1) = false) :
    exec .inData s = .next s := by
  have hexists : addressExists s.cfg (transferAddr s + 1) = true := decide_eq_true hx
  rw [exec, execInData, if_pos hp, if_pos hexists, h]
  rfl

end

/-- Settles O34: the admission test precedes the data read. That the step then changes nothing is the model's choice
(assumption log 7). -/
theorem transferNotAdmittedStays : Obligations.TransferNotAdmittedStays :=
  fun _ hp hx h => exec_inData_refused hp hx (Bool.and_eq_false_iff.mpr h)

/-- Settles O32: the stored word, and the laws of memory for its two bytes. -/
theorem transferStoresWordLowByteFirst : Obligations.TransferStoresWordLowByteFirst := by
  intro s hp hi
  rw [← transferAddr_eq]
  intro a w hx hlo hhi
  obtain ⟨hlow, hhigh⟩ := Memory.holdsWord_writeWord s.mem a w
  refine ⟨s.mem.writeWord a w, w.extractLsb' 0 8, w.extractLsb' 8 8, lowByte_toNat w, highByte_toNat w, ?_, hlow, hhigh,
    fun x => Memory.read_writeWord_other s.mem w⟩
  rw [exec_inData_admitted hp hx hlo hhi, transferWord_more hi, storedWord_eq]
  rfl

/-- Settles O33: the stored word, then the end of the sector by whether it is the last of COUNT. -/
theorem transferCompletesSector : Obligations.TransferCompletesSector := by
  intro s hp hi
  rw [← hi, ← transferAddr_eq]
  intro a w hx hlo hhi
  have hlast : ¬ s.seqI.toNat < 255 := by omega
  obtain ⟨hlow, hhigh⟩ := Memory.holdsWord_writeWord s.mem a w
  refine ⟨s.mem.writeWord a w, w.extractLsb' 0 8, w.extractLsb' 8 8, lowByte_toNat w, highByte_toNat w, hlow, hhigh,
    fun x => Memory.read_writeWord_other s.mem w, fun hs => ?_,
    fun hs => ⟨resultWord .success 0 0 s.lastStatus, ?_, ?_⟩⟩
  · rw [exec_inData_admitted hp hx hlo hhi, transferWord_sector hlast hs, storedWord_eq]
    rfl
  · exact (resultWord_toNat _ _ _ _).trans (Nat.zero_add _)
  · rw [exec_inData_admitted hp hx hlo hhi, transferWord_last hlast hs, storedWord_eq]
    rfl

/-! ### The words of an operation -/

/-- R40: the data words the operation has read, by its two counters. -/
def wordsDone (s : State) : Nat := 256 * s.seqS.toNat + s.seqI.toNat

theorem transferAddr_eq_wordsDone (s : State) : transferAddr s = (destAddrReg s).toNat + 2 * wordsDone s := by
  simp only [transferAddr, wordsDone]
  omega

/-- From `s` to `t` no data word is read and no byte is written. -/
def MovesNoData (s t : State) : Prop :=
  t.mem = s.mem ∧ ∃ evs, t.history = s.history ++ evs ∧ dataWords evs = [] ∧ memWrites evs = []

theorem movesNoData_of_history_eq {s t : State} (hm : t.mem = s.mem) (hh : t.history = s.history) : MovesNoData s t :=
  ⟨hm, [], hh.trans (List.append_nil _).symm, rfl, rfl⟩

/-- R176: a sector that was to come is counted without overflow. -/
theorem sector_done_toNat {n c : Byte} (h : n.toNat < c.toNat) : (n + 1).toNat = n.toNat + 1 := by
  have hc := c.isLt
  exact byte_succ_toNat (by omega)

/-- R175: word 255 ends its sector. -/
theorem wordsDone_of_sector_done {s t : State} (hi : ¬ s.seqI.toNat < 255) (h : s.seqS.toNat < s.count.toNat)
    (hs : t.seqS = s.seqS + 1) (ht : t.seqI.toNat = 0) : wordsDone t = wordsDone s + 1 := by
  have hlt := s.seqI.isLt
  rw [wordsDone, wordsDone, hs, ht, sector_done_toNat h]
  omega

theorem positionOk_readErr_iff {s : State} (h : s.seqState = .readErr) :
    positionOk s ↔ bsy s.lastStatus = false ∧ err s.lastStatus = true ∧ s.seqI = 0 ∧ s.seqS.toNat < s.count.toNat := by
  simp only [positionOk, h]

/-- R39, R40: while an operation runs, only TRANSFER is inside a sector. -/
theorem Inv.seqI_eq_zero {s : State} (hi : Inv s) (hidle : s.seqState ≠ .idle) (ht : s.seqState ≠ .transfer) :
    s.seqI = 0 := by
  cases h : s.seqState with
  | idle => exact absurd h hidle
  | transfer => exact absurd h ht
  | validate | waitNbsy | program | issue | settle =>
    obtain ⟨-, hword⟩ := hi.no_data_yet (by rw [h]; rfl)
    exact hword
  | waitDrq =>
    obtain ⟨-, hword, -⟩ := (positionOk_waitDrq_iff h).mp hi.position
    exact hword
  | readErr =>
    obtain ⟨-, -, hword, -⟩ := (positionOk_readErr_iff h).mp hi.position
    exact hword

/-- R175: a move keeps the words done and moves no data, or stores the next word of the operation. -/
theorem SequencerStep.word_cases {s t : State} (hstep : SequencerStep s t) (hi : Inv s) :
    (MovesNoData s t ∧ wordsDone t = wordsDone s) ∨ (MovesNoData (storedWord s) t ∧ wordsDone t = wordsDone s + 1) := by
  cases hstep.split_case with
  | idle | validatePass | stuck => exact .inl ⟨movesNoData_of_history_eq rfl rfl, rfl⟩
  | validateFail | nbsyReady | nbsyStay | programMore | programLast | issueSettle | issueWait | settleMore | settleLast
  | drqError | drqStay => exact .inl ⟨⟨rfl, _, rfl, rfl, rfl⟩, rfl⟩
  | nbsyTimeout | drqTimeout | readErr => exact .inl ⟨⟨rfl, _, List.append_assoc _ _ _, rfl, rfl⟩, rfl⟩
  | drqReady h =>
    have hword : s.seqI = 0 := hi.seqI_eq_zero (by rw [h]; decide) (by rw [h]; decide)
    exact .inl ⟨⟨rfl, _, rfl, rfl, rfl⟩, by simp only [wordsDone, hword]; rfl⟩
  | transferMore h x a i =>
    refine .inr ⟨movesNoData_of_history_eq rfl rfl, ?_⟩
    show 256 * s.seqS.toNat + (s.seqI + 1).toNat = 256 * s.seqS.toNat + s.seqI.toNat + 1
    rw [byte_succ_toNat i, Nat.add_assoc]
  | transferSector h x a i =>
    exact .inr ⟨movesNoData_of_history_eq rfl rfl, wordsDone_of_sector_done i (hi.sector_lt (.inr h)) rfl rfl⟩
  | transferLast h x a i =>
    exact .inr ⟨⟨rfl, _, rfl, rfl, rfl⟩, wordsDone_of_sector_done i (hi.sector_lt (.inr h)) rfl rfl⟩

/-! ### Where an operation ends -/

/-- R180: in IDLE no sector is half read, and after SUCCESS every sector of the request is read. -/
def EndsAtSector (s : State) : Prop :=
  s.seqState = .idle → s.seqI = 0 ∧ (s.result.toNat % 16 = 0 → s.seqS = s.count)

theorem endsAtSector_of_ne_idle {s : State} (h : s.seqState ≠ .idle) : EndsAtSector s := fun hidle => absurd hidle h

/-- An operation that fails between sectors ends at one. -/
theorem endsAtSector_of_failure {cls : ResultClass} (hcls : cls ≠ .success) {s : State} (hw : s.seqI = 0)
    (d : BitVec 4) (e st : Byte) : EndsAtSector (finish cls d e st s) := by
  refine fun _ => ⟨hw, fun hres => absurd ?_ hcls⟩
  have hcode : cls.code.toNat = 0 := by
    rw [finish_result, resultWord_toNat] at hres
    have := cls.code.isLt
    omega
  cases cls with
  | success => rfl
  | _ => cases hcode

theorem SequencerStep.endsAtSector {s t : State} (hstep : SequencerStep s t) (hi : Inv s) (h : EndsAtSector s) :
    EndsAtSector t := by
  cases hstep.split_case with
  | idle | stuck => exact h
  | validateFail hp | nbsyTimeout hp | drqTimeout hp | readErr hp =>
    have hword : s.seqI = 0 := hi.seqI_eq_zero (by rw [hp]; decide) (by rw [hp]; decide)
    exact endsAtSector_of_failure (by decide) hword _ _ _
  | transferLast hp x a i c =>
    have hcount : s.seqS + 1 = s.count :=
      BitVec.eq_of_toNat_eq ((sector_done_toNat (hi.sector_lt (.inr hp))).trans c)
    exact fun _ => ⟨rfl, fun _ => hcount⟩
  | nbsyStay hp | programMore hp | settleMore hp | drqStay hp | transferMore hp =>
    refine endsAtSector_of_ne_idle ?_
    show s.seqState ≠ .idle
    rw [hp]
    decide
  | validatePass | nbsyReady | programLast | issueSettle | issueWait | settleLast | drqError | drqReady
  | transferSector => exact endsAtSector_of_ne_idle SeqState.noConfusion

/-! ### The words in memory -/

/-- R177: memory `m` is memory `start` with the words `ws` stored from address `dest` on, in order. -/
structure WordsStored (start : Memory) (dest : Nat) (ws : List Half) (m : Memory) : Prop where
  word : ∀ (k : Nat) (w : Half), ws[k]? = some w → m.HoldsWord (dest + 2 * k) w
  frame : ∀ a, (a < dest ∨ dest + 2 * ws.length ≤ a) → Memory.read m a = Memory.read start a

theorem wordsStored_nil (start : Memory) (dest : Nat) : WordsStored start dest [] start :=
  ⟨nofun, fun _ _ => rfl⟩

/-- The next word goes to the end of the region and leaves the words before it. -/
theorem WordsStored.concat {start m : Memory} {dest : Nat} {ws : List Half} (h : WordsStored start dest ws m) (w : Half) :
    WordsStored start dest (ws ++ [w]) (m.writeWord (dest + 2 * ws.length) w) where
  word k v hk := by
    obtain hlt | rfl | hgt := lt_trichotomy k ws.length
    · rw [List.getElem?_append_left hlt] at hk
      obtain ⟨hlo, hhi⟩ := h.word k v hk
      exact ⟨(Memory.read_writeWord_other m w (by omega) (by omega)).trans hlo,
        (Memory.read_writeWord_other m w (by omega) (by omega)).trans hhi⟩
    · rw [List.getElem?_concat_length, Option.some_inj] at hk
      exact hk ▸ Memory.holdsWord_writeWord m _ w
    · rw [List.getElem?_eq_none (by simpa using hgt)] at hk
      cases hk
  frame a ha := by
    rw [List.length_append, List.length_singleton] at ha
    rw [Memory.read_writeWord_other m w (by omega) (by omega)]
    exact h.frame a (by omega)

/-- The operation begun in `s` has read `n` words by `t`, has made two byte writes for each, and has them in memory. -/
def Delivered (s t : State) (n : Nat) : Prop :=
  ∃ evs, t.history = s.history ++ evs ∧ (dataWords evs).length = n ∧ (memWrites evs).length = 2 * n ∧
    WordsStored s.mem (destAddrReg s).toNat (dataWords evs) t.mem

theorem delivered_zero (s : State) : Delivered s s 0 :=
  ⟨[], (List.append_nil _).symm, rfl, rfl, wordsStored_nil _ _⟩

theorem Delivered.of_movesNoData {s u t : State} {n : Nat} (h : Delivered s u n) (hm : MovesNoData u t) :
    Delivered s t n := by
  obtain ⟨evs, hh, hlen, hwrites, hstored⟩ := h
  obtain ⟨hmem, more, hmore, hdata, hnone⟩ := hm
  refine ⟨evs ++ more, by rw [hmore, hh, List.append_assoc], ?_⟩
  rw [dataWords_append, memWrites_append, hdata, hnone, List.append_nil, List.append_nil, hmem]
  exact ⟨hlen, hwrites, hstored⟩

/-- R175, R176: the present word is the next of the destination region. -/
theorem Delivered.succ {s u : State} (h : Delivered s u (wordsDone u)) (hd : destAddrReg u = destAddrReg s) :
    Delivered s (storedWord u) (wordsDone u + 1) := by
  obtain ⟨evs, hh, hlen, hwrites, hstored⟩ := h
  refine ⟨evs ++ wordEvents u, ?_, ?_, ?_, ?_⟩
  · rw [storedWord_history, hh, List.append_assoc]
  · rw [dataWords_append, List.length_append, hlen, dataWords_wordEvents, List.length_singleton]
  · rw [memWrites_append, List.length_append, hwrites, memWrites_wordEvents_length, Nat.mul_succ]
  · rw [dataWords_append, dataWords_wordEvents, storedWord_mem, transferAddr_eq_wordsDone, hd, ← hlen]
    exact hstored.concat (nextWord u)

/-! ### A run of the sequencer alone -/

theorem sequencerStep_of_alone {s t : State} (ha : SequencerAlone s) (h : step s = .next t) : SequencerStep s t := by
  rw [step_of_sequencer_turn (cfg_ok_of_step h) (.inl ⟨ha, rfl⟩)] at h
  exact sequencerTurn_cases h

/-- What every step keeps holds at every point of a run. -/
theorem run_keeps {P : State → Prop} (hkeep : ∀ s t, P s → step s = .next t → P t) {s t : State} {k : Nat} (h : P s)
    (hrun : core.run k s = .next t) : P t := by
  induction k generalizing s with
  | zero => cases hrun; exact h
  | succ k ih =>
    cases hstep : step s with
    | next u => exact ih (hkeep s u h hstep) ((run_succ core hstep k).symm.trans hrun)
    | fault r => simp [Host.Core.run, core, hstep] at hrun
    | refused r => simp [Host.Core.run, core, hstep] at hrun

/-- A point of the operation begun in `s`, with only the sequencer moving. -/
structure OperationPoint (s t : State) : Prop where
  inv : Inv t
  alone : SequencerAlone t
  dest : destAddrReg t = destAddrReg s
  count : t.count = s.count
  ends : EndsAtSector t
  delivered : Delivered s t (wordsDone t)

theorem operationPoint_validate {s : State} (hi : Inv s) (ha : SequencerAlone s) (hv : s.seqState = .validate) :
    OperationPoint s s := by
  obtain ⟨hsector, hword⟩ := hi.no_data_yet (by rw [hv]; rfl)
  have hnone : wordsDone s = 0 := by rw [wordsDone, hsector, hword]; rfl
  refine ⟨hi, ha, rfl, rfl, endsAtSector_of_ne_idle (by rw [hv]; decide), ?_⟩
  rw [hnone]
  exact delivered_zero s

theorem OperationPoint.next {s u t : State} (h : OperationPoint s u) (hut : step u = .next t) : OperationPoint s t := by
  obtain ⟨hi, ha, hd, hc, he, hdel⟩ := h
  have hstep := sequencerStep_of_alone ha hut
  refine ⟨hstep.inv hi, hstep.pending.trans ha, (hstep.sameRequest.destAddrReg_eq hstep.cfg).trans hd,
    hstep.sameRequest.count.trans hc, hstep.endsAtSector hi he, ?_⟩
  obtain ⟨hm, hw⟩ | ⟨hm, hw⟩ := hstep.word_cases hi <;> rw [hw]
  · exact hdel.of_movesNoData hm
  · exact (hdel.succ hd).of_movesNoData hm

/-- Settles O56: VALIDATE is a point of its own operation, and every step leads from a point to a point. -/
theorem dataDeliveredInOrder : Obligations.DataDeliveredInOrder := by
  intro s t k hi ha hv hrun
  obtain ⟨-, -, -, hc, he, evs, hh, hlen, hwrites, hword, hframe⟩ :=
    run_keeps (fun _ _ => OperationPoint.next) (operationPoint_validate hi ha hv) hrun
  refine ⟨evs, hh, hlen, hlen ▸ hwrites, fun m w hm => ?_, hframe, fun hidle => ?_⟩
  · obtain ⟨hlow, hhigh⟩ := hword m w hm
    exact ⟨_, _, lowByte_toNat w, highByte_toNat w, hlow, hhigh⟩
  · obtain ⟨hw, hsuccess⟩ := he hidle
    refine ⟨hw, fun hres => ?_⟩
    rw [hlen, wordsDone, hw, hsuccess hres, hc]
    rfl

end Sys2Proof.Machine
end

section
/-! SUPPORT. When the sequencer changes nothing: in IDLE, where it has no step (spec/60_exceptions.md R205), and in the stuck
state (R193). In every other state but VALIDATE its step makes one device-bus transaction (spec/43_data_port_mux.md R174). -/

namespace Sys2Proof.Machine

/-! ### IDLE -/

theorem sequencerTurn_idle {s : State} (h : s.seqState = .idle) : runFetched (sequencerTurn s) = .next s := by
  rw [sequencerTurn, h]
  rfl

/-- Settles O40, for both shapes of the sequencer's turn. That a turn in IDLE is a step is the model's choice (assumption
log 8). -/
theorem idleIsInert : Obligations.IdleIsInert := by
  intro s hc h
  refine ⟨fun hp => ?_, fun rest hp => ?_⟩
  · rw [step_of_sequencer_turn hc (.inl ⟨hp, rfl⟩)]
    exact sequencerTurn_idle h
  · rw [step_of_sequencer_turn hc (.inr ⟨rest, hp, rfl⟩)]
    exact sequencerTurn_idle h

/-! ### BUSY = 1 -/

/-- R176: the bytes a TRANSFER step writes exist, since the request is validated and its sector is one of COUNT. -/
theorem Inv.addressExists_of_transfer {s : State} (hi : Inv s) (h : s.seqState = .transfer) :
    addressExists s.cfg (transferAddr s + 1) = true :=
  addressExists_of_inDestination (hi.request_valid (by rw [h]; rfl)) (inDestination_transferAddr (hi.sector_lt (.inr h))).2

/-- R193: with only the sequencer moving, every state of the invariant has a step, which is a move of the sequencer. -/
theorem Inv.step_alone {s : State} (hi : Inv s) (hc : s.cfg.ok = true) (ha : SequencerAlone s) :
    ∃ t, step s = .next t ∧ SequencerStep s t := by
  obtain ⟨t, hturn, -⟩ := sequencerTurn_next hi.position hi.addressExists_of_transfer
  exact ⟨t, (step_of_sequencer_turn hc (.inl ⟨ha, rfl⟩)).trans hturn, sequencerTurn_cases hturn⟩

/-- R181: the stuck state has no move but the one that changes nothing. -/
theorem SequencerStep.eq_of_stuck {s t : State} (hstep : SequencerStep s t) (h : Stuck s) : t = s := by
  obtain ⟨hp, hrefused⟩ := h
  cases hstep with
  | idle | stuck => rfl
  | transfer _ _ admitted => exact absurd (hrefused.symm.trans admitted) Bool.false_ne_true
  | validate h | waitNbsy h | program h | issue h | settle h | waitDrq h | readErr h =>
    exact absurd (hp.symm.trans h) (by decide)

/-- Only the stuck state stays: every other move of a running operation brings its end nearer. -/
theorem SequencerStep.eq_iff_stuck {s t : State} (hstep : SequencerStep s t) (hi : Inv s) (hidle : s.seqState ≠ .idle) :
    t = s ↔ Stuck s := by
  refine ⟨fun heq => ?_, hstep.eq_of_stuck⟩
  subst heq
  by_contra hstuck
  exact lt_irrefl _ (hstep.remainingTurns_lt hi hidle hstuck)

/-- R174: a move outside IDLE and VALIDATE that is not stuck makes exactly one device-bus transaction. -/
theorem SequencerStep.one_bus_event {s t : State} (hstep : SequencerStep s t) (hidle : s.seqState ≠ .idle)
    (hvalidate : s.seqState ≠ .validate) (hstuck : ¬ Stuck s) :
    ∃ evs, t.history = s.history ++ evs ∧ (evs.filter Event.isBus).length = 1 := by
  cases hstep.split_case with
  | idle h => exact absurd h hidle
  | validatePass h | validateFail h => exact absurd h hvalidate
  | stuck h refused => exact absurd ⟨h, refused⟩ hstuck
  | nbsyReady | nbsyStay | programMore | programLast | issueSettle | issueWait | settleMore | settleLast | drqError
  | drqReady | drqStay => exact ⟨_, rfl, rfl⟩
  | nbsyTimeout | drqTimeout | readErr => exact ⟨_, List.append_assoc _ _ _, rfl⟩
  | transferMore | transferSector => exact ⟨wordEvents s, storedWord_history s, rfl⟩
  | transferLast =>
    refine ⟨wordEvents s ++ [.finish .success 0 0 s.lastStatus], ?_, rfl⟩
    rw [← List.append_assoc, ← storedWord_history]
    rfl

/-- A validated request in TRANSFER on a platform that refuses the second byte of its destination. -/
def refusedTransfer : State :=
  { State.reset with
    cfg := { Config.default with memRefused := [(0x7E01, 1)] }, count := 1, destAddr := 0x7E00, destLen := 512
    seqState := .transfer, statusBusy := true, lastStatus := 0x58 }

theorem inv_refusedTransfer : Inv refusedTransfer where
  busy_iff := by decide
  busy_not_done _ := rfl
  timeout_pos := by decide
  mode_legal := by decide
  dest_width := by decide
  result_none _ := rfl
  result_class := by decide
  position := (positionOk_transfer_iff rfl).mpr (by decide)
  request_valid _ := by decide
  no_data_yet := by decide
  mem_wf := .nil
  mem_width := nofun

/-- R193: the stuck state occurs, in a described configuration and with only the sequencer moving. -/
theorem stuck_refusedTransfer :
    Inv refusedTransfer ∧ refusedTransfer.cfg.ok = true ∧ SequencerAlone refusedTransfer ∧
      refusedTransfer.statusBusy = true ∧ Stuck refusedTransfer :=
  ⟨inv_refusedTransfer, by decide, rfl, rfl, rfl, by decide⟩

/-- Settles O51: the move the state has, and what such moves change and record. That the stuck state stutters is the model's
choice (assumption log 7). -/
theorem busySequencerStepsUnlessStuck : Obligations.BusySequencerStepsUnlessStuck := by
  intro s hi hc ha hb
  have hidle : s.seqState ≠ .idle := hi.busy_iff.mp hb
  obtain ⟨t, hnext, hstep⟩ := hi.step_alone hc ha
  exact ⟨t, hnext, hstep.eq_iff_stuck hi hidle, fun hstuck hvalidate => hstep.one_bus_event hidle hvalidate hstuck⟩

end Sys2Proof.Machine
end

section
/-! SUPPORT. What reset leaves alone (spec/70_reset_and_hazards.md section 1): the events, the memory and all that stands
around the PSR. -/

namespace Sys2Proof.Machine

/-- Settles O37: a reset turn is `assertReset` of the state without the turn, and `assertReset` keeps each of these fields. That
it keeps more than the memory and the history is the model's choice (assumption log 11). -/
theorem resetTouchesNothingElse : Obligations.ResetTouchesNothingElse := by
  intro s t rest hp h
  obtain rfl := eq_assertReset_of_step hp h
  exact ⟨assertReset_mem _, assertReset_history _, assertReset_byteAnswers _, assertReset_wordAnswers _, assertReset_draws _,
    assertReset_responses _, assertReset_pending _, assertReset_cfg _⟩

end Sys2Proof.Machine
end

section
/-! SUPPORT. The words as bytes (spec/30_encoding.md section 1): what the decoder reads from the bytes of an instruction, and
which bytes the instruction it reads stands for. The container is the model's own (assumption log 2, DESIGN CHOICE). -/

namespace Sys2Proof.Machine

/-! ### The six bytes of a host transaction -/

/-- H is its bit 8 above its low byte. -/
theorem descriptor_of_bytes (h : BitVec 9) :
    ((h.extractLsb' 8 1).setWidth 8).extractLsb' 0 1 ++ h.extractLsb' 0 8 = h := by
  have htop : ((h.extractLsb' 8 1).setWidth 8).extractLsb' 0 1 = h.extractLsb' 8 1 := by
    rw [BitVec.extractLsb'_setWidth_of_le (by decide), BitVec.extractLsb'_eq_self]
  rw [htop]
  exact BitVec.extractLsb'_append_extractLsb' (w := 1) (len := 8)

/-- WDATA is its four bytes. -/
theorem wdata_of_bytes (w : Word) :
    w.extractLsb' 24 8 ++ w.extractLsb' 16 8 ++ w.extractLsb' 8 8 ++ w.extractLsb' 0 8 = w := by
  have hhigh : w.extractLsb' 24 8 ++ w.extractLsb' 16 8 = w.extractLsb' 16 16 :=
    BitVec.extractLsb'_append_extractLsb'_eq_extractLsb' rfl
  have htop : w.extractLsb' 16 16 ++ w.extractLsb' 8 8 = w.extractLsb' 8 24 :=
    BitVec.extractLsb'_append_extractLsb'_eq_extractLsb' rfl
  rw [hhigh, htop]
  exact BitVec.extractLsb'_append_extractLsb' (w := 24) (len := 8)

theorem descriptor_high_bits (b : BitVec 1) : (b.setWidth 8).extractLsb' 1 7 = 0#7 := by
  revert b; decide

theorem decode_hostBytes (h : BitVec 9) (w : Word) : decode (hostBytes h w) = .instr (decodeHost h w) := by
  rw [hostBytes, decode, if_pos (descriptor_high_bits _), descriptor_of_bytes, wdata_of_bytes]

theorem decode_hostBytes_of_eq {h : BitVec 9} {w : Word} {i : Instr} (hi : decodeHost h w = i) :
    decode (hostBytes h w) = .instr i := by
  rw [decode_hostBytes, hi]

theorem setWidth_low_bit : ∀ b : Byte, b.extractLsb' 1 7 = 0#7 → (b.extractLsb' 0 1).setWidth 8 = b := by decide

/-- Six bytes with no bit above H are the bytes of an H and a WDATA. -/
theorem hostBytes_of_bytes {h1 : Byte} (hz : h1.extractLsb' 1 7 = 0#7) (h0 d0 d1 d2 d3 : Byte) :
    hostBytes (h1.extractLsb' 0 1 ++ h0) (d3 ++ d2 ++ d1 ++ d0) = [h0, h1, d0, d1, d2, d3] := by
  simp (disch := decide) only [hostBytes, BitVec.extractLsb'_append_eq_right, BitVec.extractLsb'_append_eq_of_le,
    BitVec.extractLsb'_eq_self, Nat.reduceSub, setWidth_low_bit h1 hz]

/-! ### The decoder's two lengths -/

/-- What decodes is one byte, or the six bytes of an H and a WDATA. -/
theorem decode_instr_cases {bs : List Byte} {i : Instr} (h : decode bs = .instr i) :
    (∃ v, bs = [v] ∧ decodeDeviceByte v = .instr i) ∨ ∃ hd w, bs = hostBytes hd w ∧ decodeHost hd w = i := by
  unfold decode at h
  split at h
  · exact .inl ⟨_, rfl, h⟩
  · split at h
    · next hz => exact .inr ⟨_, _, (hostBytes_of_bytes hz _ _ _ _ _).symm, Decoded.instr.inj h⟩
    · cases h
  · cases h

/-! ### Encoding what the decoder read -/

/-- The four bytes of WDATA. -/
def wdataBytes (w : Word) : List Byte := (hostBytes 0 w).drop 2

/-- The write data chooses no descriptor, and only a write carries it. -/
theorem encode_decodeHost_wdata (h : BitVec 9) (w : Word) :
    encode (decodeHost h w) =
      (encode (decodeHost h 0)).take 2 ++ wdataBytes (if (decodeHost h w).isWrite then w else 0) := by
  by_cases hb : badDescriptor h = true
  · rw [decodeHost_of_bad hb, decodeHost_of_bad hb]; rfl
  · rw [decodeHost, decodeHost, if_neg hb, if_neg hb]
    split <;> rfl

/-- R76, R77: the register map of the aligned words, read backwards. -/
theorem encode_decodeHost_aligned : ∀ reg : BitVec 5,
    (encode (decodeHost (hostDescriptor 0b10#2 reg 0#2) 0)).take 2 =
      (hostBytes (hostDescriptor 0b10#2 reg 0#2) 0).take 2 := by decide

theorem encode_decodeHost_descriptor (h : BitVec 9) :
    (encode (decodeHost h 0)).take 2 = (hostBytes h 0).take 2 := by
  by_cases hb : badDescriptor h = true
  · rw [decodeHost_of_bad hb]; rfl
  · obtain ⟨size, reg, low, rfl⟩ := exists_hostDescriptor h
    rw [badDescriptor_hostDescriptor, Bool.or_eq_true, bne_iff_ne, bne_iff_ne, not_or, not_ne_iff, not_ne_iff] at hb
    obtain ⟨rfl, rfl⟩ := hb
    exact encode_decodeHost_aligned reg

/-- R77: the encoding of what H and WDATA decode to is H, with WDATA for a write. -/
theorem encode_decodeHost (h : BitVec 9) (w : Word) :
    encode (decodeHost h w) = hostBytes h (if (decodeHost h w).isWrite then w else 0) := by
  rw [encode_decodeHost_wdata, encode_decodeHost_descriptor]
  rfl

theorem devHead28_eq_append (d : BitVec 1) (l : BitVec 4) : devHead28 d l = 0b111#3 ++ d ++ l := by
  revert d l; decide

theorem devHead48_eq_append (d : BitVec 1) : devHead48 d = 0b010#3 ++ d ++ 0b0000#4 := by
  revert d; decide

theorem setWidth_busDescriptor : ∀ v : Byte, v.extractLsb' 5 3 = 0b000#3 → (v.extractLsb' 0 5).setWidth 8 = v := by decide

/-- R79: the nine descriptors of format B, read backwards. -/
theorem encode_of_decodeBus {b : BitVec 5} {i : Instr} (h : decodeBus b = .instr i) :
    i.isHost = false ∧ encode i = [b.setWidth 8] := by
  unfold decodeBus at h
  split at h <;> cases h
  all_goals
    rename_i hb
    rw [← BitVec.ofNat_toNat, hb]
    exact ⟨rfl, rfl⟩

/-- R79, R81, R82: the one-byte forms, read backwards. -/
theorem encode_of_decodeDeviceByte {v : Byte} {i : Instr} (h : decodeDeviceByte v = .instr i) :
    i.isHost = false ∧ encode i = [v] := by
  unfold decodeDeviceByte at h
  split at h
  · next hv => exact setWidth_busDescriptor v hv ▸ encode_of_decodeBus h
  · split at h
    · obtain ⟨rfl, rfl⟩ | ⟨rfl, rfl⟩ := (decodeCommand_instr_iff v i).mp h <;> exact ⟨rfl, rfl⟩
    · obtain ⟨d, l, rfl, rfl⟩ | ⟨d, rfl, rfl⟩ := (decodeDevHead_instr_iff v i).mp h
      · exact ⟨rfl, congrArg (fun b => [b]) (devHead28_eq_append d l).symm⟩
      · exact ⟨rfl, congrArg (fun b => [b]) (devHead48_eq_append d).symm⟩

theorem wf_of_not_isHost {i : Instr} (h : i.isHost = false) : i.wf = true := by
  cases i with
  | badAccess => cases h
  | _ => rfl

/-- Settles O5: one byte is the encoding itself, six bytes are H with the write data of a write. The layout in bytes is the
model's choice (assumption log 2). -/
theorem decodedBytesReencode : Obligations.DecodedBytesReencode := by
  intro bs i hd
  obtain ⟨v, rfl, hv⟩ | ⟨h, w, rfl, rfl⟩ := decode_instr_cases hd
  · obtain ⟨hhost, he⟩ := encode_of_decodeDeviceByte hv
    rw [he]
    exact ⟨wf_of_not_isHost hhost, rfl, rfl, fun _ => rfl⟩
  · rw [encode_decodeHost]
    refine ⟨decodeHost_wf h w, rfl, rfl, fun hwrite => ?_⟩
    rw [if_pos (hwrite.resolve_left (by simp [decodeHost_isHost]))]

/-! ### Decoding an encoding -/

theorem decodeDeviceByte_devHead28 (d : BitVec 1) (l : BitVec 4) :
    decodeDeviceByte (0b111#3 ++ d ++ l) = .instr (.devheadLba28 d l) := by
  revert d l; decide

theorem decodeDeviceByte_devHead48 (d : BitVec 1) :
    decodeDeviceByte (0b010#3 ++ d ++ 0b0000#4) = .instr (.devheadLba48 d) := by
  revert d; decide

theorem decodeHost_readDescriptor_reserved (n : BitVec 2) (w : Word) :
    decodeHost (readDescriptor (0b11#2 ++ n ++ 0b00#2)) w = .rsvdRd n := by
  obtain rfl | rfl | rfl | rfl := reservedOffset_cases n <;> rfl

theorem decodeHost_writeDescriptor_reserved (n : BitVec 2) (w : Word) :
    decodeHost (writeDescriptor (0b11#2 ++ n ++ 0b00#2)) w = .rsvdWr n w := by
  obtain rfl | rfl | rfl | rfl := reservedOffset_cases n <;> rfl

/-- Settles O4, by format: H at a register offset, at a reserved offset, of another size or alignment; and one byte. The layout
in bytes is the model's choice (assumption log 2). -/
theorem decodeEncodeRoundTrip : Obligations.DecodeEncodeRoundTrip := by
  intro i hwf
  cases i with
  | rdCtrl | rdStatus | rdLbaLo | rdLbaHi | rdCount | rdDestAddr | rdDestLen | rdTimeout | rdResult | rdRetcode
  | rdProgress | rdPollCount | wrCtrl | wrStatus | wrLbaLo | wrLbaHi | wrCount | wrDestAddr | wrDestLen | wrTimeout
  | wrResult | wrRetcode | wrProgress | wrPollCount => exact decode_hostBytes_of_eq rfl
  | rsvdRd n => exact decode_hostBytes_of_eq (decodeHost_readDescriptor_reserved n 0)
  | rsvdWr n w => exact decode_hostBytes_of_eq (decodeHost_writeDescriptor_reserved n w)
  | badAccess h => exact decode_hostBytes_of_eq (decodeHost_of_bad hwf 0)
  | outDevhead | outSeccount | outLbalo | outLbamid | outLbahi | outCmd | inStatus | inError | inData | cmdReadSectors
  | cmdReadSectorsExt => rfl
  | devheadLba28 d l => exact decodeDeviceByte_devHead28 d l
  | devheadLba48 d => exact decodeDeviceByte_devHead48 d

/-- Settles O6, by running the decoder on each word. The layout in bytes is the model's choice (assumption log 2). -/
theorem spelledWordsDecode : Obligations.SpelledWordsDecode :=
  ⟨rfl, rfl, rfl, rfl, rfl, rfl, rfl, rfl, rfl, rfl, rfl⟩

/-! ### The turn of a host transaction -/

theorem step_host {s : State} {h : BitVec 9} {w : Word} {rest : List Turn} (hc : s.cfg.ok = true)
    (hp : s.pending = .host h w :: rest) : step s = exec (decodeHost h w) { s with pending := rest } := by
  rw [step_eq hc, fetch, hp]; rfl

/-- Settles O38: the turn decodes H and WDATA, which is what their bytes decode to. -/
theorem stepRunsDecodedHostTransaction : Obligations.StepRunsDecodedHostTransaction := by
  intro s h w rest i hc hp hd
  obtain rfl := Decoded.instr.inj ((decode_hostBytes h w).symm.trans hd)
  exact step_host hc hp

end Sys2Proof.Machine
end

section
/-! SUPPORT. The turn of the sequencer as the transaction its position issues (spec/43_data_port_mux.md R174), and a table word
placed at the position that issues it (assumption log 3, DESIGN CHOICE). -/

namespace Sys2Proof.Machine

/-! ### The transaction a position issues -/

/-- The two shapes of a turn of the sequencer in `s`: the last one left, or taken from the queue. `u` is the state it is made
in. -/
abbrev SequencerTurnIn (s u : State) : Prop :=
  (s.pending = [] ∧ u = s) ∨ ∃ rest, s.pending = .sequencer :: rest ∧ u = { s with pending := rest }

/-- R174: a position that issues a descriptor runs its transaction. -/
theorem sequencerTurn_of_busDescriptor {s : State} {b : BitVec 5} {i : Instr} (hb : busDescriptor s = some b)
    (hi : decodeBus b = .instr i) : runFetched (sequencerTurn s) = exec i s := by
  unfold sequencerTurn
  split
  case h_1 hp | h_2 hp => simp [busDescriptor, hp] at hb
  all_goals rw [hb]; simp only [hi]; rfl

theorem step_of_busDescriptor {s u : State} {b : BitVec 5} {i : Instr} (hc : s.cfg.ok = true) (hu : SequencerTurnIn s u)
    (hb : busDescriptor u = some b) (hi : decodeBus b = .instr i) : step s = exec i u :=
  (step_of_sequencer_turn hc hu).trans (sequencerTurn_of_busDescriptor hb hi)

/-- R141, R142: the ports of the 48-bit mode's list; the 28-bit mode's are the first five. -/
def taskfilePorts : List (BitVec 3) := [6, 2, 3, 4, 5, 2, 3, 4, 5]

theorem taskfile_ports (s : State) : (taskfile s).map Prod.fst = taskfilePorts.take (taskfileLength s) := by
  cases hm : ctrlModeBit s with
  | false => rw [taskfile_of_mode28 hm, taskfileLength_of_mode28 hm]; rfl
  | true => rw [taskfile_of_mode48 hm, taskfileLength_of_mode48 hm]; rfl

/-- R140: entry `k` of the list of either mode is for port `k` of the nine. -/
theorem taskfile_entry {s : State} {k : Nat} {o : BitVec 3} (hk : k < taskfileLength s)
    (ho : taskfilePorts[k]? = some o) : ∃ v, (taskfile s)[k]? = some (o, v) := by
  have hport : ((taskfile s).map Prod.fst)[k]? = some o := by rw [taskfile_ports, List.getElem?_take_of_lt hk, ho]
  rw [List.getElem?_map, Option.map_eq_some_iff] at hport
  obtain ⟨⟨_, v⟩, hv, rfl⟩ := hport
  exact ⟨v, hv⟩

/-- R140: PROGRAM runs the taskfile write of the present entry. -/
theorem step_taskfileInstr {s u : State} {o : BitVec 3} {v : Byte} (hc : s.cfg.ok = true) (hu : SequencerTurnIn s u)
    (hp : u.seqState = .program) (he : (taskfile u)[u.seqK.toNat]? = some (o, v)) : step s = exec (taskfileInstr o) u := by
  have hb : busDescriptor u = some (writeB o) := by rw [busDescriptor, hp, he]; rfl
  exact step_of_busDescriptor hc hu hb (decodeBus_taskfile (taskfile_port he))

theorem taskfileLength_eq (s : State) :
    taskfileLength s = if s.cfg.hasLba48 = true ∧ s.ctrlMode = true then 9 else 5 := by
  simp only [taskfileLength, ctrlModeBit_eq_true_iff]

section
variable {s u : State} (hc : s.cfg.ok = true) (hu : SequencerTurnIn s u)
include hc hu

/-- R174: the three states that read the status port. -/
theorem step_inStatus (hp : u.seqState = .waitNbsy ∨ u.seqState = .settle ∨ u.seqState = .waitDrq) :
    step s = exec .inStatus u := by
  refine step_of_busDescriptor hc hu (b := 0x07) ?_ rfl
  obtain hp | hp | hp := hp <;> rw [busDescriptor, hp]

theorem step_outCmd (hp : u.seqState = .issue) : step s = exec .outCmd u :=
  step_of_busDescriptor hc hu (by rw [busDescriptor, hp]) rfl

theorem step_inError (hp : u.seqState = .readErr) : step s = exec .inError u :=
  step_of_busDescriptor hc hu (by rw [busDescriptor, hp]) rfl

theorem step_inData (hp : u.seqState = .transfer) : step s = exec .inData u :=
  step_of_busDescriptor hc hu (by rw [busDescriptor, hp]) rfl

/-- R82: in the 28-bit mode ISSUE runs READ SECTORS. -/
theorem step_cmdReadSectors (hp : u.seqState = .issue) (hm : ctrlModeBit u = false) :
    step s = exec .cmdReadSectors u := by
  rw [step_outCmd hc hu hp, exec_outCmd hp, commandByte_of_mode28 hm, exec_cmdReadSectors hp hm]

/-- R82: in the 48-bit mode ISSUE runs READ SECTORS EXT. -/
theorem step_cmdReadSectorsExt (hp : u.seqState = .issue) (hm : ctrlModeBit u = true) :
    step s = exec .cmdReadSectorsExt u := by
  rw [step_outCmd hc hu hp, exec_outCmd hp, commandByte_of_mode48 hm, exec_cmdReadSectorsExt hp hm]

end

/-- Settles O39, position by position; the mode chooses the command row and the length of PROGRAM. -/
theorem stepRunsIssuedTransaction : Obligations.StepRunsIssuedTransaction := by
  intro s u hc hu
  obtain ⟨hp, hcfg, hmode, hk⟩ :
      u.seqState = s.seqState ∧ u.cfg = s.cfg ∧ u.ctrlMode = s.ctrlMode ∧ u.seqK = s.seqK := by
    obtain ⟨-, rfl⟩ | ⟨rest, -, rfl⟩ := hu <;> exact ⟨rfl, rfl, rfl, rfl⟩
  rw [← hp, ← hcfg, ← hmode, ← hk, ← taskfileLength_eq]
  refine ⟨step_inStatus hc hu, fun hissue => ⟨step_outCmd hc hu hissue, ?_⟩, step_inError hc hu, step_inData hc hu,
    fun hprogram i hi hlt => ?_⟩
  · split
    · next hm => exact step_cmdReadSectorsExt hc hu hissue ((ctrlModeBit_eq_true_iff u).mpr hm)
    · next hm => exact step_cmdReadSectors hc hu hissue (by rw [← Bool.not_eq_true, ctrlModeBit_eq_true_iff]; exact hm)
  · have hrow : (taskfilePorts.map taskfileInstr)[u.seqK.toNat]? = some i := hi
    rw [List.getElem?_map, Option.map_eq_some_iff] at hrow
    obtain ⟨o, ho, rfl⟩ := hrow
    obtain ⟨v, he⟩ := taskfile_entry hlt ho
    exact step_taskfileInstr hc hu hprogram he

/-! ### A placed word -/

/-- What a table word of one byte places. -/
theorem withFetchWord_device {nbits w : Nat} {i : Instr} (s : State) (hn : nbits ≤ 8)
    (hd : decodeDeviceByte (BitVec.ofNat 8 w) = .instr i) : s.withFetchWord nbits w = placeDevice i s := by
  rw [State.withFetchWord, placeWord, if_pos hn, hd]

/-- What a table word of six bytes places. -/
theorem withFetchWord_host {nbits w : Nat} (s : State) (hn : ¬ nbits ≤ 8) :
    s.withFetchWord nbits w = { s with pending := .host (tableDescriptor w) (tableWdata w) :: s.pending } := by
  rw [State.withFetchWord, placeWord, if_neg hn]

theorem decode_of_decodeTableWord {nbits w : Nat} {i : Instr} (h : decodeTableWord nbits w = some i) :
    decode (tableBytes nbits w) = .instr i := by
  by_cases hw : w < 2 ^ (if nbits ≤ 8 then 8 else 48)
  · rw [decodeTableWord, if_pos hw] at h
    split at h
    · next hd => rw [hd, Option.some.inj h]
    · cases h
  · rw [decodeTableWord, if_neg hw] at h
    cases h

/-- A field of a number cut to `n` bits is a field of the number. -/
theorem extractLsb'_ofNat {n k m : Nat} (h : k + m ≤ n) (x : Nat) :
    (BitVec.ofNat n x).extractLsb' k m = BitVec.ofNat m (x >>> k) := by
  refine BitVec.eq_of_getLsbD_eq fun j hj => ?_
  have hjn : k + j < n := by omega
  simp only [BitVec.getLsbD_extractLsb', BitVec.getLsbD_ofNat, hj, hjn, decide_true, Bool.true_and,
    Nat.testBit_shiftRight]

theorem tableDescriptor_of_bytes (w : Nat) :
    (BitVec.ofNat 8 (w >>> 8)).extractLsb' 0 1 ++ BitVec.ofNat 8 w = tableDescriptor w := by
  have hbit : (BitVec.ofNat 8 (w >>> 8)).extractLsb' 0 1 = (tableDescriptor w).extractLsb' 8 1 := by
    rw [tableDescriptor, extractLsb'_ofNat (by decide), extractLsb'_ofNat (by decide), Nat.shiftRight_zero]
  have hlow : BitVec.ofNat 8 w = (tableDescriptor w).extractLsb' 0 8 := by
    rw [tableDescriptor, extractLsb'_ofNat (by decide), Nat.shiftRight_zero]
  rw [hbit, hlow]
  exact BitVec.extractLsb'_append_extractLsb' (w := 1) (len := 8)

theorem tableWdata_of_bytes (w : Nat) :
    BitVec.ofNat 8 (w >>> 40) ++ BitVec.ofNat 8 (w >>> 32) ++ BitVec.ofNat 8 (w >>> 24) ++ BitVec.ofNat 8 (w >>> 16) =
      tableWdata w := by
  have hbyte {k : Nat} (hk : k + 8 ≤ 32) : BitVec.ofNat 8 (w >>> (16 + k)) = (tableWdata w).extractLsb' k 8 := by
    rw [tableWdata, extractLsb'_ofNat hk, Nat.shiftRight_add]
  rw [← wdata_of_bytes (tableWdata w), ← hbyte (by decide), ← hbyte (by decide), ← hbyte (by decide),
    ← hbyte (by decide)]

/-- A table word of six bytes decodes as its H and WDATA do. -/
theorem decodeHost_of_tableBytes {nbits w : Nat} {i : Instr} (hn : ¬ nbits ≤ 8)
    (hd : decode (tableBytes nbits w) = .instr i) : decodeHost (tableDescriptor w) (tableWdata w) = i := by
  rw [tableBytes, if_neg hn, decode, tableDescriptor_of_bytes, tableWdata_of_bytes] at hd
  split at hd
  · exact Decoded.instr.inj hd
  · cases hd

/-- A table word of one byte decodes as that byte does. -/
theorem decodeDeviceByte_of_tableBytes {nbits w : Nat} {i : Instr} (hn : nbits ≤ 8)
    (hd : decode (tableBytes nbits w) = .instr i) : decodeDeviceByte (BitVec.ofNat 8 w) = .instr i := by
  rw [tableBytes, if_pos hn] at hd
  exact hd

/-- Every host transaction completes. -/
theorem exec_host_next {i : Instr} (h : i.isHost = true) (s : State) : ∃ t, exec i s = .next t := by
  obtain ⟨v, e⟩ | ⟨hd, e⟩ | e | ⟨store, e, -⟩ := exec_host h s <;> exact ⟨_, e⟩

/-! ### A transaction placed at its position -/

/-- The sequencer in state `p` with an operation running: what `placePosition` leaves once its turn is taken. -/
def atPosition (p : SeqState) (s : State) : State := { s with seqState := p, statusBusy := true, statusDone := false }

theorem sequencerTurnIn_placePosition (p : SeqState) (s : State) :
    SequencerTurnIn (placePosition p s) (atPosition p s) :=
  .inr ⟨s.pending, rfl, rfl⟩

/-- The step from `p` runs `i` in a state with the queue of `s` and, but for IN_DATA, completes. -/
def RunsPlaced (i : Instr) (s p : State) : Prop :=
  ∃ u, u.pending = s.pending ∧ step p = exec i u ∧ (i ≠ .inData → ∃ t, step p = .next t)

theorem runsPlaced_placePosition {i : Instr} {p : SeqState} {s r t : State} (hq : r.pending = s.pending)
    (hstep : step (placePosition p r) = exec i (atPosition p r)) (hnext : exec i (atPosition p r) = .next t) :
    RunsPlaced i s (placePosition p r) :=
  ⟨atPosition p r, hq, hstep, fun _ => ⟨t, hstep.trans hnext⟩⟩

/-- R140: the first five entries are in the list of either mode. -/
theorem taskfile_entry_lt_five (s : State) {k : Nat} {o : BitVec 3} (hk : k < 5) (ho : taskfilePorts[k]? = some o) :
    ∃ v, (taskfile s)[k]? = some (o, v) := by
  refine taskfile_entry (hk.trans_le ?_) ho
  unfold taskfileLength; split <;> decide

theorem runsPlaced_placeTaskfile {s : State} (hc : s.cfg.ok = true) (k : BitVec 4) {o : BitVec 3} (hk : k.toNat < 5)
    (ho : taskfilePorts[k.toNat]? = some o) : RunsPlaced (taskfileInstr o) s (placeTaskfile k s) := by
  obtain ⟨v, he⟩ := taskfile_entry_lt_five (atPosition .program { s with seqK := k }) hk ho
  have hnext := (exec_taskfileInstr (taskfile_port he)).trans (taskfileWrite_eq rfl he)
  exact runsPlaced_placePosition rfl (step_taskfileInstr hc (sequencerTurnIn_placePosition _ _) rfl he) hnext

section
variable {s u : State} (hc : s.cfg.ok = true) (hu : SequencerTurnIn s u) (hp : u.seqState = .program) (hk : u.seqK = 0)
include hc hu hp hk

theorem step_outDevhead : step s = exec .outDevhead u := by
  obtain ⟨v, he⟩ := taskfile_entry_lt_five u (k := 0) (by decide) rfl
  exact step_taskfileInstr hc hu hp (by rw [hk]; exact he)

/-- R81: in the 28-bit mode the first PROGRAM step runs the drive/head row of the request's fields. -/
theorem step_devheadLba28 (hm : ctrlModeBit u = false) :
    step s = exec (.devheadLba28 (BitVec.ofBool u.ctrlDrv) ((requestLba u).extractLsb' 24 4)) u := by
  rw [step_outDevhead hc hu hp hk, exec_outDevhead_mode28 hp hk hm, exec_devheadLba28 hp hk hm]

/-- R81: in the 48-bit mode it runs the row of the drive. -/
theorem step_devheadLba48 (hm : ctrlModeBit u = true) : step s = exec (.devheadLba48 (BitVec.ofBool u.ctrlDrv)) u := by
  rw [step_outDevhead hc hu hp hk, exec_outDevhead_mode48 hp hk hm, exec_devheadLba48 hp hk hm]

end

theorem ofBool_getLsbD_zero (d : BitVec 1) : BitVec.ofBool (d.getLsbD 0) = d := by
  revert d; decide

/-- R23, R81: `lba[27:24]` of the LBA_LO that is placed. -/
theorem requestLba_placed_field {s : State} {a l : BitVec 4} {b : BitVec 24} (h : s.lbaLo = a ++ l ++ b) :
    (requestLba s).extractLsb' 24 4 = l := by
  rw [requestLba, BitVec.extractLsb'_append_eq_of_add_le (by decide), h,
    BitVec.extractLsb'_append_eq_of_le (by decide), BitVec.extractLsb'_append_eq_right]

/-- The drive/head row of the 28-bit mode, placed where its fields are those of the request. -/
theorem runsPlaced_devheadLba28 {r s : State} {d : BitVec 1} {l : BitVec 4} (hc : r.cfg.ok = true)
    (hq : r.pending = s.pending) (hk : r.seqK = 0) (hm : ctrlModeBit r = false) (hd : BitVec.ofBool r.ctrlDrv = d)
    (hl : (requestLba r).extractLsb' 24 4 = l) : RunsPlaced (.devheadLba28 d l) s (placePosition .program r) := by
  subst hd hl
  exact runsPlaced_placePosition hq (step_devheadLba28 hc (sequencerTurnIn_placePosition _ r) rfl hk hm)
    (exec_devheadLba28 rfl hk hm)

/-- The drive/head row of the 48-bit mode, placed where its drive is that of the request. -/
theorem runsPlaced_devheadLba48 {r s : State} {d : BitVec 1} (hc : r.cfg.ok = true) (hq : r.pending = s.pending)
    (hk : r.seqK = 0) (hm : ctrlModeBit r = true) (hd : BitVec.ofBool r.ctrlDrv = d) :
    RunsPlaced (.devheadLba48 d) s (placePosition .program r) := by
  subst hd
  exact runsPlaced_placePosition hq (step_devheadLba48 hc (sequencerTurnIn_placePosition _ r) rfl hk hm)
    (exec_devheadLba48 rfl hk hm)

/-- Every transaction of the sequencer runs from where it is placed. -/
theorem runsPlaced_placeDevice {i : Instr} {s : State} (hi : i.isHost = false) (hc : s.cfg.ok = true) :
    RunsPlaced i s (placeDevice i s) := by
  have hturn := sequencerTurnIn_placePosition
  cases i with
  | outDevhead => exact runsPlaced_placeTaskfile hc 0 (by decide) rfl
  | outSeccount => exact runsPlaced_placeTaskfile hc 1 (by decide) rfl
  | outLbalo => exact runsPlaced_placeTaskfile hc 2 (by decide) rfl
  | outLbamid => exact runsPlaced_placeTaskfile hc 3 (by decide) rfl
  | outLbahi => exact runsPlaced_placeTaskfile hc 4 (by decide) rfl
  | outCmd => exact runsPlaced_placePosition rfl (step_outCmd hc (hturn _ s) rfl) (exec_outCmd rfl)
  | inStatus =>
    exact runsPlaced_placePosition rfl (step_inStatus hc (hturn _ s) (.inl rfl)) (exec_inStatus_waitNbsy rfl)
  | inError => exact runsPlaced_placePosition rfl (step_inError hc (hturn _ s) rfl) (exec_inError rfl)
  | inData => exact ⟨atPosition .transfer s, rfl, step_inData hc (hturn _ s) rfl, fun h => absurd rfl h⟩
  | cmdReadSectors =>
    have hm : ctrlModeBit (atPosition .issue (select28 s)) = false := (ctrlModeBit_eq_false_iff _).mpr (.inr rfl)
    exact runsPlaced_placePosition rfl (step_cmdReadSectors hc (hturn _ _) rfl hm) (exec_cmdReadSectors rfl hm)
  | cmdReadSectorsExt =>
    have hm : ctrlModeBit (atPosition .issue (select48 s)) = true := rfl
    exact runsPlaced_placePosition rfl (step_cmdReadSectorsExt hc (hturn _ _) rfl hm) (exec_cmdReadSectorsExt rfl hm)
  | devheadLba28 d l =>
    exact runsPlaced_devheadLba28 hc rfl rfl ((ctrlModeBit_eq_false_iff _).mpr (.inr rfl)) (ofBool_getLsbD_zero d)
      (requestLba_placed_field rfl)
  | devheadLba48 d => exact runsPlaced_devheadLba48 hc rfl rfl rfl (ofBool_getLsbD_zero d)
  | _ => cases hi

/-- Settles O42: the bytes of the word and what is placed decode alike. The placing is the model's choice (assumption
log 3). -/
theorem placedWordRunsNext : Obligations.PlacedWordRunsNext := by
  intro s nbits w i hc hw
  have hd := decode_of_decodeTableWord hw
  by_cases hn : nbits ≤ 8
  · have hbyte := decodeDeviceByte_of_tableBytes hn hd
    obtain ⟨hhost, -⟩ := encode_of_decodeDeviceByte hbyte
    rw [withFetchWord_device s hn hbyte]
    obtain ⟨u, hq, hstep, hnext⟩ := runsPlaced_placeDevice hhost hc
    exact ⟨u, hq, hstep, by simp [hhost], hnext⟩
  · obtain rfl := decodeHost_of_tableBytes hn hd
    have hstep : step (s.withFetchWord nbits w) = exec (decodeHost (tableDescriptor w) (tableWdata w)) s := by
      rw [withFetchWord_host s hn]
      exact step_host hc rfl
    refine ⟨s, rfl, hstep, fun _ => rfl, fun _ => ?_⟩
    rw [hstep]
    exact exec_host_next (decodeHost_isHost _ _) s

end Sys2Proof.Machine
end

section
/-! SUPPORT. The invariant across a step of every agent (spec/10_state.md section 4): at reset, under a write of a host agent,
and for the moves that touch only what stands around the PSR. -/

namespace Sys2Proof.Machine

/-! ### Memory and the agents -/

/-- R47: memory is canonical, and every listed byte is at an address that exists. -/
structure MemoryOk (s : State) : Prop where
  wf : Memory.wf s.mem
  width : ∀ c ∈ s.mem, c.1 < 2 ^ s.cfg.memAddrWidth

theorem Inv.memoryOk {s : State} (hi : Inv s) : MemoryOk s := ⟨hi.mem_wf, hi.mem_width⟩

theorem MemoryOk.write {s : State} (h : MemoryOk s) {a : Nat} (ha : addressExists s.cfg a = true) (v : Byte) :
    MemoryOk { s with mem := Memory.write s.mem a v } :=
  ⟨Memory.wf_write h.wf a v, Memory.width_write h.width (of_decide_eq_true ha)⟩

/-- The invariant speaks of the PSR's own state and of memory. -/
theorem Inv.around {s : State} (hi : Inv s) {m : Memory} (hm : MemoryOk { s with mem := m }) (q : List Turn)
    (evs : List Event) (rs : List Response) :
    Inv { s with mem := m, pending := q, history := evs, responses := rs } where
  busy_iff := hi.busy_iff
  busy_not_done := hi.busy_not_done
  timeout_pos := hi.timeout_pos
  mode_legal := hi.mode_legal
  dest_width := hi.dest_width
  result_none := hi.result_none
  result_class := hi.result_class
  position := hi.position
  request_valid := hi.request_valid
  no_data_yet := hi.no_data_yet
  mem_wf := hm.wf
  mem_width := hm.width

theorem Inv.queue {s : State} (hi : Inv s) (q : List Turn) : Inv { s with pending := q } :=
  hi.around hi.memoryOk q s.history s.responses

/-! ### Reset -/

/-- R43: the reset values satisfy the invariant, whatever the memory that stays. -/
theorem inv_assertReset {s : State} (hm : MemoryOk s) : Inv (assertReset s) where
  busy_iff := by simp
  busy_not_done := nofun
  timeout_pos := timeoutReset_ne_zero s.cfg
  mode_legal := nofun
  dest_width := by simp
  result_none _ := rfl
  result_class := nofun
  position := trivial
  request_valid := nofun
  no_data_yet := nofun
  mem_wf := hm.wf
  mem_width := hm.width

theorem memoryOk_resetWith (c : Config) : MemoryOk (State.resetWith c) := ⟨Memory.wf_nil, nofun⟩

theorem inv_resetWith (c : Config) : Inv (State.resetWith c) :=
  assertReset_resetWith c ▸ inv_assertReset (memoryOk_resetWith c)

/-- Settles O46: a machine just set up is one that reset leaves as it is. -/
theorem resetSatisfiesInvariant : Obligations.ResetSatisfiesInvariant :=
  ⟨inv_resetWith Config.default, inv_resetWith⟩

/-! ### A write of a host agent -/

/-- R37: while BUSY = 0 the sequencer is in IDLE. -/
theorem Inv.idle_of_not_busy {s : State} (hi : Inv s) (hb : s.statusBusy = false) : s.seqState = .idle :=
  of_not_not fun h => Bool.false_ne_true (hb.symm.trans (hi.busy_iff.mpr h))

/-- R18: while BUSY = 0 the request registers may take any legal values (R20, R25, R27). -/
theorem Inv.storeRequest {s : State} (hi : Inv s) (hb : s.statusBusy = false) {mode : Bool} {dest timeout : Word}
    (hmode : mode = true → s.cfg.hasLba48 = true) (hdest : dest.toNat < 2 ^ s.cfg.memAddrWidth)
    (htimeout : timeout ≠ 0#32) (drv : Bool) (lo : Word) (hi16 : Half) (c : Byte) (len : Word) :
    Inv { s with
      ctrlMode := mode, ctrlDrv := drv, lbaLo := lo, lbaHi := hi16, count := c, destAddr := dest, destLen := len
      timeout := timeout } := by
  have hidle := hi.idle_of_not_busy hb
  constructor
  case position => simp only [positionOk, hidle]
  case request_valid => rw [hidle]; nofun
  case no_data_yet => exact hi.no_data_yet
  case timeout_pos => exact htimeout
  case mode_legal => exact hmode
  case dest_width => exact hdest
  case busy_iff => exact hi.busy_iff
  case busy_not_done => exact hi.busy_not_done
  case result_none => exact hi.result_none
  case result_class => exact hi.result_class
  case mem_wf => exact hi.mem_wf
  case mem_width => exact hi.mem_width

/-- R135: `Start` enters VALIDATE with every counter 0 and RESULT none. -/
theorem Inv.start {s : State} (hi : Inv s) : Inv (start s) where
  busy_iff := by simp
  busy_not_done _ := rfl
  timeout_pos := hi.timeout_pos
  mode_legal := hi.mode_legal
  dest_width := hi.dest_width
  result_none _ := rfl
  result_class := nofun
  position := ⟨rfl, rfl, rfl⟩
  request_valid := nofun
  no_data_yet _ := ⟨rfl, rfl⟩
  mem_wf := hi.mem_wf
  mem_width := hi.mem_width

theorem wdataMode_legal {c : Config} {w : Word} (h : wdataMode c w = true) : c.hasLba48 = true :=
  (Bool.and_eq_true_iff.mp h).1

/-- R100: an accepted write of CTRL stores a legal MODE, and starts or not. -/
theorem Inv.storeCtrl {s : State} (hi : Inv s) (hb : s.statusBusy = false) (w : Word) : Inv (storeCtrl w s) := by
  have hstored : Inv { s with ctrlMode := wdataMode s.cfg w, ctrlDrv := wdataDrv w } :=
    hi.storeRequest hb wdataMode_legal hi.dest_width hi.timeout_pos _ _ _ _ _
  simp only [Machine.storeCtrl]
  split
  · exact hstored.start
  · exact hstored

/-- A write keeps the invariant when its store does while BUSY = 0. -/
theorem Inv.csrWrite {s : State} (hi : Inv s) {store : State → State} (h : s.statusBusy = false → Inv (store s)) :
    Inv (csrWrite store s) := by
  cases hb : s.statusBusy with
  | true => rw [csrWrite_of_busy hb]; exact hi.around hi.memoryOk _ _ _
  | false => rw [csrWrite_of_not_busy hb]; exact (h hb).around (h hb).memoryOk _ _ _

theorem Inv.exec_host {i : Instr} {s t : State} (hhost : i.isHost = true) (hi : Inv s) (h : exec i s = .next t) :
    Inv t := by
  obtain ⟨v, e⟩ | ⟨hd, e⟩ | e | ⟨store, e, hstore⟩ := Machine.exec_host hhost s <;> (rw [e] at h; cases h)
  · exact hi.around hi.memoryOk _ _ _
  · exact hi.around hi.memoryOk _ _ _
  · exact hi.around hi.memoryOk _ _ _
  · refine hi.csrWrite fun hb => ?_
    obtain ⟨w, rfl⟩ | ⟨w, rfl⟩ | ⟨w, rfl⟩ | ⟨w, rfl⟩ | ⟨w, rfl⟩ | ⟨w, rfl⟩ | ⟨w, rfl⟩ := hstore
    · exact hi.storeCtrl hb w
    · exact hi.storeRequest hb hi.mode_legal hi.dest_width hi.timeout_pos _ w _ _ _
    · exact hi.storeRequest hb hi.mode_legal hi.dest_width hi.timeout_pos _ _ w _ _
    · exact hi.storeRequest hb hi.mode_legal hi.dest_width hi.timeout_pos _ _ _ w _
    · exact hi.storeRequest hb hi.mode_legal (lowBits_lt _ w) hi.timeout_pos _ _ _ _ _
    · exact hi.storeRequest hb hi.mode_legal hi.dest_width hi.timeout_pos _ _ _ _ w
    · exact hi.storeRequest hb hi.mode_legal hi.dest_width (legalTimeout_ne_zero w) _ _ _ _ _

/-- Settles O47, by the agent whose turn it is. -/
theorem stepKeepsInvariant : Obligations.StepKeepsInvariant := by
  intro s t hi h
  obtain ⟨-, hq⟩ | ⟨rest, -, hq⟩ | ⟨hd, w, rest, -, he⟩ | ⟨rest, -, rfl⟩ | ⟨a, n, rest, -, -, rfl⟩ |
    ⟨a, v, rest, -, ha, rfl⟩ | ⟨hd, m, v, rest, -, rfl⟩ | ⟨hd, m, v, rest, -, rfl⟩ := step_cases h
  · exact hq.inv hi
  · exact hq.inv (hi.queue rest)
  · exact (hi.queue rest).exec_host (decodeHost_isHost hd w) he
  · exact inv_assertReset (hi.queue rest).memoryOk
  · exact hi.around hi.memoryOk _ _ _
  · exact hi.around (hi.memoryOk.write ha v) _ _ _
  · exact hi.queue _
  · obtain ⟨q, hq⟩ := pollBranch_changes_pending hd m v { s with pending := rest }
    rw [hq]
    exact hi.queue q

end Sys2Proof.Machine
end

section
/-! SUPPORT. What a step of any agent leaves alone: the request registers (spec/10_state.md R18, spec/40_host_interface.md R98)
and the memory outside the destination (spec/20_memory.md R47). -/

namespace Sys2Proof.Machine

/-! ### The request registers -/

/-- A turn of the sequencer is a move of it, made in the state without the turn. -/
theorem sequencerStep_of_turn {s t : State} (h : step s = .next t)
    (hp : s.pending = [] ∨ ∃ rest, s.pending = .sequencer :: rest) : ∃ q, SequencerStep { s with pending := q } t := by
  obtain hp | ⟨rest, hp⟩ := hp
  · exact ⟨s.pending, sequencerStep_of_alone hp h⟩
  · rw [step_of_sequencer_turn (cfg_ok_of_step h) (.inr ⟨rest, hp, rfl⟩)] at h
    exact ⟨rest, sequencerTurn_cases h⟩

/-- The queue of turns is no part of the request. -/
theorem SameRequest.of_queue {s t : State} {q : List Turn} (h : SameRequest { s with pending := q } t) :
    SameRequest s t :=
  ⟨h.mode, h.drv, h.lbaLo, h.lbaHi, h.count, h.destAddr, h.destLen, h.timeout⟩

/-- Settles O49: a move of the sequencer keeps the request, and while BUSY = 1 nothing else but reset touches the PSR. -/
theorem requestFixedWhileBusy : Obligations.RequestFixedWhileBusy := by
  intro s t h
  refine ⟨fun hp => ?_, fun hb hr => ?_⟩
  · obtain ⟨q, hstep⟩ := sequencerStep_of_turn h hp
    exact hstep.sameRequest.of_queue
  · obtain ⟨q, hstep⟩ | ⟨q, m, rs, evs, rfl⟩ := step_of_busy h hb hr
    · exact hstep.sameRequest.of_queue
    · exact ⟨rfl, rfl, rfl, rfl, rfl, rfl, rfl, rfl⟩

/-! ### Memory and the history under a host transaction -/

/-- Memory and the history are as before. -/
def WorldKept (s t : State) : Prop := t.mem = s.mem ∧ t.history = s.history

theorem storeCtrl_worldKept (w : Word) (s : State) : WorldKept s (storeCtrl w s) := by
  cases hw : wdataStart w with
  | true => simp only [storeCtrl, hw, if_true]; exact ⟨rfl, rfl⟩
  | false => rw [storeCtrl_of_not_start hw]; exact ⟨rfl, rfl⟩

theorem csrWrite_worldKept {store : State → State} {s : State} (h : WorldKept s (store s)) :
    WorldKept s (csrWrite store s) := by
  cases hb : s.statusBusy with
  | true => rw [csrWrite_of_busy hb]; exact ⟨rfl, rfl⟩
  | false => rw [csrWrite_of_not_busy hb]; exact h

/-- R96: a host transaction writes no memory and records nothing but a `HostAccessFault`. -/
theorem exec_host_mem_history {i : Instr} {s t : State} (hi : i.isHost = true) (h : exec i s = .next t) :
    t.mem = s.mem ∧ (t.history = s.history ∨ ∃ hd, t.history = s.history ++ [.hostAccessFault hd]) := by
  obtain ⟨v, e⟩ | ⟨hd, e⟩ | e | ⟨store, e, hstore⟩ := exec_host hi s <;> (rw [e] at h; cases h)
  · exact ⟨rfl, .inl rfl⟩
  · exact ⟨rfl, .inr ⟨hd, rfl⟩⟩
  · exact ⟨rfl, .inl rfl⟩
  · suffices hkept : WorldKept s (csrWrite store s) from ⟨hkept.1, .inl hkept.2⟩
    refine csrWrite_worldKept ?_
    obtain ⟨w, rfl⟩ | ⟨w, rfl⟩ | ⟨w, rfl⟩ | ⟨w, rfl⟩ | ⟨w, rfl⟩ | ⟨w, rfl⟩ | ⟨w, rfl⟩ := hstore
    · exact storeCtrl_worldKept w s
    all_goals exact ⟨rfl, rfl⟩

/-! ### Memory -/

/-- R47: the byte writes of a step stay in the destination region, and only TRANSFER makes any. -/
def WritesDestination (s t : State) : Prop :=
  (∀ a, ¬ inDestination s a → Memory.read t.mem a = Memory.read s.mem a) ∧ (s.seqState ≠ .transfer → SameMemory s t)

theorem writesDestination_of_mem_eq {s t : State} (h : t.mem = s.mem) : WritesDestination s t :=
  ⟨fun a _ => by rw [h], fun _ a => by rw [h]⟩

/-- R175, R176: the two bytes a move may store are bytes of the destination. -/
theorem SequencerStep.writesDestination {s t : State} (hstep : SequencerStep s t) (hi : Inv s) :
    WritesDestination s t := by
  obtain hm | ⟨hp, -, lo, hi8, hm⟩ := hstep.mem_cases
  · exact writesDestination_of_mem_eq hm
  · obtain ⟨hlow, hhigh⟩ := inDestination_transferAddr (hi.sector_lt (.inr hp))
    refine ⟨fun a ha => ?_, fun hne => absurd hp hne⟩
    have hne : a ≠ transferAddr s := by rintro rfl; exact ha hlow
    have hne' : a ≠ transferAddr s + 1 := by rintro rfl; exact ha hhigh
    rw [hm, Memory.read_write_other _ _ hne', Memory.read_write_other _ _ hne]

/-- Settles O52: the moves of the sequencer write the destination only, and no other agent but a host writing memory itself
writes any. -/
theorem memoryWrittenOnlyInDestination : Obligations.MemoryWrittenOnlyInDestination := by
  intro s t hi h hw
  obtain ⟨-, hq⟩ | ⟨rest, -, hq⟩ | ⟨hd, w, rest, -, he⟩ | ⟨rest, -, rfl⟩ | ⟨a, n, rest, -, -, rfl⟩ |
    ⟨a, v, rest, hp, -, -⟩ | ⟨hd, m, v, rest, -, rfl⟩ | ⟨hd, m, v, rest, -, rfl⟩ := step_cases h
  · exact hq.writesDestination hi
  · exact hq.writesDestination (hi.queue rest)
  · obtain ⟨hm, -⟩ := exec_host_mem_history (decodeHost_isHost hd w) he
    exact writesDestination_of_mem_eq hm
  · exact writesDestination_of_mem_eq rfl
  · exact writesDestination_of_mem_eq rfl
  · exact absurd hp (hw a v rest)
  · exact writesDestination_of_mem_eq rfl
  · obtain ⟨q, hq⟩ := pollBranch_changes_pending hd m v { s with pending := rest }
    rw [hq]
    exact writesDestination_of_mem_eq rfl

end Sys2Proof.Machine
end

section
/-! SUPPORT. The events of a step (spec/43_data_port_mux.md R174, spec/00_scope.md R12): one device-bus transaction of the
sequencer's position, the bytes of its word, then `Finish`. -/

namespace Sys2Proof.Machine

/-! ### The events of a move of the sequencer -/

/-- R174: the events a move in `s` records before its `Finish`: none, one device-bus transaction that `s` issues, or the word
of a TRANSFER step. -/
inductive IssuedEvents (s : State) : List Event → Prop where
  | none : IssuedEvents s []
  | bus (e : Event) (hbus : e.isBus = true) (hissued : issuedIn s.cfg.devBase s.seqState e) : IssuedEvents s [e]
  | word (h : s.seqState = .transfer) : IssuedEvents s (wordEvents s)

/-- R146: a move records what it issues, and at most a `Finish` after it. -/
inductive MoveEvents (s : State) : List Event → Prop where
  | running {evs : List Event} (h : IssuedEvents s evs) : MoveEvents s evs
  | finished {evs : List Event} (h : IssuedEvents s evs) (cls : ResultClass) (d : BitVec 4) (e st : Byte) :
      MoveEvents s (evs ++ [.finish cls d e st])

theorem IssuedEvents.statusRead {s : State} (h : s.seqState = .waitNbsy ∨ s.seqState = .settle ∨ s.seqState = .waitDrq)
    (v : Byte) : IssuedEvents s [.devIn8 (devPort s 7) v] :=
  .bus _ rfl (.inl ⟨h, rfl⟩)

theorem IssuedEvents.errorRead {s : State} (h : s.seqState = .readErr) (v : Byte) :
    IssuedEvents s [.devIn8 (devPort s 1) v] :=
  .bus _ rfl (.inr ⟨h, rfl⟩)

/-- R141, R142: the taskfile's ports are among those PROGRAM writes. -/
theorem IssuedEvents.taskfileWrite {s : State} (h : s.seqState = .program) {o : BitVec 3} {v : Byte}
    (he : (taskfile s)[s.seqK.toNat]? = some (o, v)) : IssuedEvents s [.devOut8 (devPort s o) v] := by
  refine .bus _ rfl (.inl ⟨h, ?_⟩)
  obtain rfl | rfl | rfl | rfl | rfl := taskfile_port he
  · exact .inr (.inr (.inr (.inr rfl)))
  · exact .inl rfl
  · exact .inr (.inl rfl)
  · exact .inr (.inr (.inl rfl))
  · exact .inr (.inr (.inr (.inl rfl)))

/-- R82: the command byte is one of the two. -/
theorem commandByte_cases (s : State) : commandByte s = 0x20 ∨ commandByte s = 0x24 := by
  cases hm : ctrlModeBit s with
  | false => exact .inl (commandByte_of_mode28 hm)
  | true => exact .inr (commandByte_of_mode48 hm)

theorem IssuedEvents.command {s : State} (h : s.seqState = .issue) :
    IssuedEvents s [.devOut8 (devPort s 7) (commandByte s)] :=
  .bus _ rfl (.inr ⟨h, rfl, commandByte_cases s⟩)

/-- R136: a move appends its events to the history. -/
theorem SequencerStep.events {s t : State} (hstep : SequencerStep s t) :
    ∃ evs, t.history = s.history ++ evs ∧ MoveEvents s evs := by
  cases hstep.split_case with
  | idle | validatePass | stuck => exact ⟨[], (List.append_nil _).symm, .running .none⟩
  | validateFail => exact ⟨_, rfl, .finished .none _ _ _ _⟩
  | nbsyReady h | nbsyStay h => exact ⟨_, rfl, .running (.statusRead (.inl h) _)⟩
  | nbsyTimeout h => exact ⟨_, List.append_assoc _ _ _, .finished (.statusRead (.inl h) _) _ _ _ _⟩
  | programMore h o v e | programLast h o v e => exact ⟨_, rfl, .running (.taskfileWrite h e)⟩
  | issueSettle h | issueWait h => exact ⟨_, rfl, .running (.command h)⟩
  | settleMore h | settleLast h => exact ⟨_, rfl, .running (.statusRead (.inr (.inl h)) _)⟩
  | drqError h | drqReady h | drqStay h => exact ⟨_, rfl, .running (.statusRead (.inr (.inr h)) _)⟩
  | drqTimeout h => exact ⟨_, List.append_assoc _ _ _, .finished (.statusRead (.inr (.inr h)) _) _ _ _ _⟩
  | readErr h => exact ⟨_, List.append_assoc _ _ _, .finished (.errorRead h _) _ _ _ _⟩
  | transferMore h | transferSector h => exact ⟨_, storedWord_history s, .running (.word h)⟩
  | transferLast h =>
    refine ⟨_, ?_, .finished (.word h) .success 0 0 s.lastStatus⟩
    rw [← List.append_assoc, ← storedWord_history]
    rfl

/-! ### What such events are -/

section
variable {s : State} {evs : List Event}

theorem IssuedEvents.bus_le_one (h : IssuedEvents s evs) : (evs.filter Event.isBus).length ≤ 1 := by
  cases h with
  | none => exact Nat.zero_le 1
  | bus e => exact List.length_filter_le _ [e]
  | word => exact le_rfl

/-- No `Finish` and no memory read is among what a move issues, and its device-bus transaction is one of its state. -/
theorem IssuedEvents.event_cases (h : IssuedEvents s evs) {e : Event} (he : e ∈ evs) :
    (e.isBus = true ∧ issuedIn s.cfg.devBase s.seqState e) ∨ ∃ a v, e = .memWrite a v := by
  cases h with
  | none => cases he
  | bus e' hbus hissued =>
    obtain rfl := List.mem_singleton.mp he
    exact .inl ⟨hbus, hissued⟩
  | word hp =>
    simp only [wordEvents, List.mem_cons, List.not_mem_nil, or_false] at he
    obtain rfl | rfl | rfl := he
    · exact .inl ⟨rfl, hp, rfl⟩
    · exact .inr ⟨_, _, rfl⟩
    · exact .inr ⟨_, _, rfl⟩

theorem IssuedEvents.finish_not_mem (h : IssuedEvents s evs) (cls : ResultClass) (d : BitVec 4) (e st : Byte) :
    .finish cls d e st ∉ evs := by
  intro he
  obtain ⟨hbus, -⟩ | ⟨a, v, heq⟩ := h.event_cases he
  · cases hbus
  · cases heq

theorem MoveEvents.bus_le_one (h : MoveEvents s evs) : (evs.filter Event.isBus).length ≤ 1 := by
  cases h with
  | running h => exact h.bus_le_one
  | finished h =>
    rw [List.filter_append, List.length_append]
    exact h.bus_le_one

theorem MoveEvents.event_cases (h : MoveEvents s evs) {e : Event} (he : e ∈ evs) :
    (e.isBus = true ∧ issuedIn s.cfg.devBase s.seqState e) ∨ (∃ a v, e = .memWrite a v) ∨
      ∃ cls d er st, e = .finish cls d er st := by
  cases h with
  | running h => exact (h.event_cases he).imp_right .inl
  | finished h =>
    obtain he | he := List.mem_append.mp he
    · exact (h.event_cases he).imp_right .inl
    · exact .inr (.inr ⟨_, _, _, _, List.mem_singleton.mp he⟩)

theorem MoveEvents.finish_last (h : MoveEvents s evs) (cls : ResultClass) (d : BitVec 4) (e st : Byte) :
    .finish cls d e st ∉ evs.dropLast := by
  cases h with
  | running h => exact fun he => h.finish_not_mem _ _ _ _ (List.mem_of_mem_dropLast he)
  | finished h =>
    rw [List.dropLast_concat]
    exact h.finish_not_mem _ _ _ _

theorem MoveEvents.memRead_not_mem (h : MoveEvents s evs) (a n : Nat) (bytes : List (Option Byte)) :
    .memRead a n bytes ∉ evs := by
  intro he
  obtain ⟨hbus, -⟩ | ⟨_, _, heq⟩ | ⟨_, _, _, _, heq⟩ := h.event_cases he
  · cases hbus
  · cases heq
  · cases heq

theorem MoveEvents.issued (h : MoveEvents s evs) {e : Event} (he : e ∈ evs) (hbus : e.isBus = true) :
    issuedIn s.cfg.devBase s.seqState e := by
  obtain ⟨-, hissued⟩ | ⟨_, _, rfl⟩ | ⟨_, _, _, _, rfl⟩ := h.event_cases he
  · exact hissued
  · cases hbus
  · cases hbus

end

/-! ### The events of a step -/

/-- R12, R136, R174: what the events of a step from `s` are, whichever agent's turn it is. -/
structure StepEvents (s : State) (evs : List Event) : Prop where
  bus_le_one : (evs.filter Event.isBus).length ≤ 1
  issued : ∀ e ∈ evs, e.isBus = true →
    issuedIn s.cfg.devBase s.seqState e ∧ (s.pending = [] ∨ ∃ rest, s.pending = .sequencer :: rest)
  finish_last : ∀ cls d e st, .finish cls d e st ∈ evs.dropLast → False
  memRead : ∀ a n bytes, .memRead a n bytes ∈ evs →
    evs = [.memRead a n bytes] ∧ ∃ rest, s.pending = .memRead a n :: rest

theorem stepEvents_nil (s : State) : StepEvents s [] := ⟨Nat.zero_le 1, nofun, nofun, nofun⟩

theorem stepEvents_hostAccessFault (s : State) (h : BitVec 9) : StepEvents s [.hostAccessFault h] :=
  ⟨Nat.zero_le 1, by simp [Event.isBus], nofun, by simp⟩

theorem stepEvents_memRead {s : State} {a n : Nat} {rest : List Turn} (hp : s.pending = .memRead a n :: rest)
    (bytes : List (Option Byte)) : StepEvents s [.memRead a n bytes] := by
  refine ⟨Nat.zero_le 1, by simp [Event.isBus], nofun, fun a' n' bytes' he => ?_⟩
  cases List.mem_singleton.mp he
  exact ⟨rfl, rest, hp⟩

theorem MoveEvents.stepEvents {s : State} {q : List Turn} {evs : List Event}
    (h : MoveEvents { s with pending := q } evs) (hp : s.pending = [] ∨ ∃ rest, s.pending = .sequencer :: rest) :
    StepEvents s evs :=
  ⟨h.bus_le_one, fun _ he hbus => ⟨h.issued he hbus, hp⟩, h.finish_last, fun a n bytes he =>
    absurd he (h.memRead_not_mem a n bytes)⟩

/-- A step whose turn is not the sequencer's and records nothing. -/
theorem stepEvents_of_history_eq {s t : State} (h : t.history = s.history) :
    ∃ evs, t.history = s.history ++ evs ∧ StepEvents s evs :=
  ⟨[], h.trans (List.append_nil _).symm, stepEvents_nil s⟩

theorem step_events {s t : State} (h : step s = .next t) :
    ∃ evs, t.history = s.history ++ evs ∧ StepEvents s evs := by
  obtain ⟨hp, hq⟩ | ⟨rest, hp, hq⟩ | ⟨hd, w, rest, -, he⟩ | ⟨rest, -, rfl⟩ | ⟨a, n, rest, hp, -, rfl⟩ |
    ⟨a, v, rest, -, -, rfl⟩ | ⟨hd, m, v, rest, -, rfl⟩ | ⟨hd, m, v, rest, -, rfl⟩ := step_cases h
  · obtain ⟨evs, hh, hmove⟩ := hq.events
    exact ⟨evs, hh, MoveEvents.stepEvents (q := s.pending) hmove (.inl hp)⟩
  · obtain ⟨evs, hh, hmove⟩ := hq.events
    exact ⟨evs, hh, hmove.stepEvents (.inr ⟨rest, hp⟩)⟩
  · obtain ⟨-, hh | ⟨hf, hh⟩⟩ := exec_host_mem_history (decodeHost_isHost hd w) he
    · exact stepEvents_of_history_eq hh
    · exact ⟨_, hh, stepEvents_hostAccessFault s hf⟩
  · exact stepEvents_of_history_eq rfl
  · exact ⟨_, rfl, stepEvents_memRead hp _⟩
  · exact stepEvents_of_history_eq rfl
  · exact stepEvents_of_history_eq rfl
  · obtain ⟨q, hq⟩ := pollBranch_changes_pending hd m v { s with pending := rest }
    rw [hq]
    exact stepEvents_of_history_eq rfl

/-- Settles O50, by the events of the agent whose turn it is. -/
theorem stepMakesOnlyIssuedTransactions : Obligations.StepMakesOnlyIssuedTransactions := by
  intro s t h
  obtain ⟨evs, hh, hbus, hissued, hfinish, hread⟩ := step_events h
  exact ⟨evs, hh, hbus, hissued, hfinish, hread⟩

end Sys2Proof.Machine
end

section
/-! SUPPORT. The five ends of an operation (spec/41_sequencer.md R151), each with the RESULT word of its `Finish`. -/

namespace Sys2Proof.Machine

/-- R156: the read that meets the bound makes the count TIMEOUT. -/
theorem count_eq_timeout {n timeout : Word} (hlt : n.toNat < timeout.toNat) (hle : timeout.toNat ≤ n.toNat + 1) :
    n + 1 = timeout := by
  refine BitVec.eq_of_toNat_eq ?_
  rw [word_succ_toNat hlt]
  omega

/-- R137, R146: the fields of RESULT after a failed VALIDATE. -/
theorem resultWord_invalidParameters (d : BitVec 4) :
    (resultWord .invalidParameters d 0 0).toNat % 16 = 1 ∧ (resultWord .invalidParameters d 0 0).toNat / 16 % 16 = d.toNat ∧
      (resultWord .invalidParameters d 0 0).toNat / 256 = 0 := by
  have hd := d.isLt
  have hword : (resultWord .invalidParameters d 0 0).toNat = 1 + 16 * d.toNat := resultWord_toNat _ _ _ _
  omega

/-- R146, R158, R159: RESULT after a wait of phase `phase` that timed out. -/
theorem resultWord_deviceTimeout_toNat (phase : BitVec 4) (st : Byte) :
    (resultWord .deviceTimeout phase 0 st).toNat = 2 + 16 * phase.toNat + 2 ^ 16 * st.toNat :=
  resultWord_toNat _ _ _ _

/-- R161: RESULT after the error read. -/
theorem resultWord_deviceError_toNat (e st : Byte) :
    (resultWord .deviceError 0 e st).toNat = 0x03 + 2 ^ 8 * e.toNat + 2 ^ 16 * st.toNat :=
  resultWord_toNat _ _ _ _

/-- R175: RESULT after the last word. -/
theorem resultWord_success_toNat (st : Byte) : (resultWord .success 0 0 st).toNat = 2 ^ 16 * st.toNat :=
  (resultWord_toNat _ _ _ _).trans (Nat.zero_add _)

/-- Settles O53: a running operation reaches IDLE by one of the five moves that finish. -/
theorem operationEndsByStateTable : Obligations.OperationEndsByStateTable := by
  intro s t hi h hr hb ht
  have hidle : s.seqState ≠ .idle := hi.busy_iff.mp hb
  obtain ⟨q, hstep⟩ | ⟨q, m, rs, evs, rfl⟩ := step_of_busy h hb hr
  · have hu := hi.queue q
    cases hstep.split_case with
    | validateFail hp hd =>
      obtain ⟨hclass, hdetail, hraw⟩ := resultWord_invalidParameters (validationDetail s)
      rw [show s.seqState = .validate from hp]
      exact ⟨rfl, hclass, hdetail, hraw, hd⟩
    | nbsyTimeout hp b n =>
      rw [show s.seqState = .waitNbsy from hp]
      have hcount := count_eq_timeout ((positionOk_waitNbsy_iff hp).mp hu.position) n
      exact ⟨rfl, resultWord_deviceTimeout_toNat 0x1 _, hcount, rfl⟩
    | drqTimeout hp b n =>
      rw [show s.seqState = .waitDrq from hp]
      obtain ⟨hlt, -⟩ := (positionOk_waitDrq_iff hp).mp hu.position
      exact ⟨rfl, resultWord_deviceTimeout_toNat 0x2 _, count_eq_timeout hlt n, rfl⟩
    | readErr hp =>
      obtain ⟨-, herr, -⟩ := (positionOk_readErr_iff hp).mp hu.position
      rw [show s.seqState = .readErr from hp]
      exact ⟨rfl, resultWord_deviceError_toNat _ _, rfl, herr⟩
    | transferLast hp x a i c =>
      have hcount : s.seqS + 1 = s.count := BitVec.eq_of_toNat_eq ((sector_done_toNat (hi.sector_lt (.inr hp))).trans c)
      rw [show s.seqState = .transfer from hp]
      exact ⟨rfl, resultWord_success_toNat _, rfl, hcount, rfl⟩
    | idle hp => exact absurd hp hidle
    | stuck | nbsyStay | programMore | settleMore | drqStay | transferMore => exact absurd ht hidle
    | validatePass | nbsyReady | programLast | issueSettle | issueWait | settleLast | drqError | drqReady
    | transferSector => cases ht
  · exact absurd ht hidle

end Sys2Proof.Machine
end
